-- ==== Sys2Proof/Word.lean ====
section
/-! DEFINITION. The word types of the unit: bytes, register identifiers, mask registers, command words
(`00_scope.md` R12, R14; `10_state.md` R32, R33, R38; `30_encoding.md` R81). -/

namespace Sys2Proof

/-- A byte: 8 bits, unsigned (R12). -/
abbrev Byte := BitVec 8

/-- A vector register: an ordered sequence of 64 bytes, byte 0 first (R14, R33). -/
abbrev VReg := Vector Byte 64

/-- A lane: a 16-byte sub-unit of a register (R150). -/
abbrev Lane := Vector Byte 16

/-- A predicate-mask register: 64 bits, bit j for byte j (R38, R39). -/
abbrev KReg := BitVec 64

/-- The 64-bit matrix argument of the `affine` kernel (R130). -/
abbrev Matrix64 := BitVec 64

/-- A vector-register identifier: 5 bits, `v0` to `v31` (R32). -/
abbrev VId := BitVec 5

/-- A mask-register identifier: 3 bits, `k0` to `k7` (R38). -/
abbrev KId := BitVec 3

/-- A command word: 32 bits (R81). -/
abbrev CommandWord := BitVec 32

end Sys2Proof
end

