-- ==== Sys2Proof/Config.lean ====
section
/-! DEFINITION. What an instance of the unit fixes: the parameters of `00_scope.md` R10, and the values the
spec leaves free at a warm reset. -/

namespace Sys2Proof

/-- How many consecutive value bytes of a lane share one matrix: the two legal values of `MATRIX_SPAN` (R10, R11). -/
inductive MatrixSpan where
  | s8
  | s16
  deriving DecidableEq, Repr

/-- The number a `MatrixSpan` stands for. -/
def MatrixSpan.bytes : MatrixSpan → Nat
  | .s8 => 8
  | .s16 => 16

/-- The parameters marked `parameter` in R10, with the value this hardware takes as default. -/
structure Config where
  /-- `NREG`: how many vector registers a command may name. -/
  nreg : Nat := 32
  /-- `NKREG`: how many mask registers a command may name. -/
  nkreg : Nat := 8
  /-- `GEN`: the generator the `LOG` and `EXP` tables are built from. -/
  gen : Byte := 0x03
  /-- `MATRIX_SPAN`: the one parameter whose value changes a result (R11). -/
  matrixSpan : MatrixSpan := .s16
  deriving DecidableEq, Repr

/-- This hardware: every parameter at the value R10 states. -/
def Config.unit : Config := { nreg := 32, nkreg := 8, gen := 0x03, matrixSpan := .s16 }

/-- FREE VALUE (assumption log 3): what vector register `r` holds after the `n`-th warm reset. The spec says
only that it is unspecified and fixed until written (R252, R253), so it has no body. -/
opaque Config.resetV : Nat → Fin 32 → VReg

/-- FREE VALUE (assumption log 3): what mask register `k` holds after the `n`-th warm reset (R252, R253). -/
opaque Config.resetK : Nat → Fin 8 → KReg

end Sys2Proof
end

