-- ==== Sys2Proof/Syntax.lean ====
section
/-! DEFINITION. The instruction set: three operations, each in five forms (`00_scope.md` R2, `30_encoding.md` R93). -/

namespace Sys2Proof

/-- The three operations (R2, the `OP` field of R82). -/
inductive Op where
  | affine
  | affineInv
  | mul
  deriving DecidableEq, Repr

/-- The three active vector widths (R87). -/
inductive Width where
  | w128
  | w256
  | w512
  deriving DecidableEq, Repr

/-- `nl`: the number of lanes of a width (R87, R165). -/
@[reducible] def Width.lanes : Width → Nat
  | .w128 => 1
  | .w256 => 2
  | .w512 => 4

/-- `n = 16 * nl`: the active width in bytes (R87, R165). -/
@[reducible] def Width.bytes (w : Width) : Nat := 16 * w.lanes

theorem Width.lanes_le (w : Width) : w.lanes ≤ 4 := by cases w <;> decide

/-- The three write-back disciplines (R168, R170, R171). The two masked ones exist at 512 bits only (R173). -/
inductive WriteBack where
  /-- `M = 0`: every active byte written, zeros above (R168). -/
  | full (w : Width)
  /-- `M = 1, Z = 0`: merge masking (R170). -/
  | merge
  /-- `M = 1, Z = 1`: zero masking (R171). -/
  | zero
  deriving DecidableEq, Repr

/-- The active width of a discipline. -/
def WriteBack.width : WriteBack → Width
  | .full w => w
  | .merge => .w512
  | .zero => .w512

/-- The 15 instruction forms of R93, operands in the order of the assembler syntax of R95:
destination, mask (masked forms), operand A, operand B, immediate (affine forms). -/
inductive Instr where
  /-- `GFAFFINE.128` (R191) -/
  | gfaffine128 (dst srcA srcB : VId) (imm : Byte)
  /-- `GFAFFINE.256` (R192) -/
  | gfaffine256 (dst srcA srcB : VId) (imm : Byte)
  /-- `GFAFFINE.512` (R193) -/
  | gfaffine512 (dst srcA srcB : VId) (imm : Byte)
  /-- `GFAFFINE.512.K` (R194) -/
  | gfaffine512k (dst : VId) (kid : KId) (srcA srcB : VId) (imm : Byte)
  /-- `GFAFFINE.512.KZ` (R195) -/
  | gfaffine512kz (dst : VId) (kid : KId) (srcA srcB : VId) (imm : Byte)
  /-- `GFAFFINEINV.128` (R201) -/
  | gfaffineinv128 (dst srcA srcB : VId) (imm : Byte)
  /-- `GFAFFINEINV.256` (R202) -/
  | gfaffineinv256 (dst srcA srcB : VId) (imm : Byte)
  /-- `GFAFFINEINV.512` (R203) -/
  | gfaffineinv512 (dst srcA srcB : VId) (imm : Byte)
  /-- `GFAFFINEINV.512.K` (R204) -/
  | gfaffineinv512k (dst : VId) (kid : KId) (srcA srcB : VId) (imm : Byte)
  /-- `GFAFFINEINV.512.KZ` (R205) -/
  | gfaffineinv512kz (dst : VId) (kid : KId) (srcA srcB : VId) (imm : Byte)
  /-- `GFMUL.128` (R211) -/
  | gfmul128 (dst srcA srcB : VId)
  /-- `GFMUL.256` (R212) -/
  | gfmul256 (dst srcA srcB : VId)
  /-- `GFMUL.512` (R213) -/
  | gfmul512 (dst srcA srcB : VId)
  /-- `GFMUL.512.K` (R214) -/
  | gfmul512k (dst : VId) (kid : KId) (srcA srcB : VId)
  /-- `GFMUL.512.KZ` (R215) -/
  | gfmul512kz (dst : VId) (kid : KId) (srcA srcB : VId)
  deriving DecidableEq, Repr

/-- The operand descriptor every form is an instance of (R80, R175): operation, write-back discipline, mask,
destination, operands A and B, immediate. `kid` is 0 in an unmasked form and `imm` is 0 in a `GFMUL` form (R92). -/
structure Shape where
  op : Op
  wb : WriteBack
  kid : KId
  dst : VId
  srcA : VId
  srcB : VId
  imm : Byte
  deriving DecidableEq, Repr

/-- The descriptor of a form. -/
def Instr.shape : Instr → Shape
  | .gfaffine128 d a b i => ⟨.affine, .full .w128, 0, d, a, b, i⟩
  | .gfaffine256 d a b i => ⟨.affine, .full .w256, 0, d, a, b, i⟩
  | .gfaffine512 d a b i => ⟨.affine, .full .w512, 0, d, a, b, i⟩
  | .gfaffine512k d k a b i => ⟨.affine, .merge, k, d, a, b, i⟩
  | .gfaffine512kz d k a b i => ⟨.affine, .zero, k, d, a, b, i⟩
  | .gfaffineinv128 d a b i => ⟨.affineInv, .full .w128, 0, d, a, b, i⟩
  | .gfaffineinv256 d a b i => ⟨.affineInv, .full .w256, 0, d, a, b, i⟩
  | .gfaffineinv512 d a b i => ⟨.affineInv, .full .w512, 0, d, a, b, i⟩
  | .gfaffineinv512k d k a b i => ⟨.affineInv, .merge, k, d, a, b, i⟩
  | .gfaffineinv512kz d k a b i => ⟨.affineInv, .zero, k, d, a, b, i⟩
  | .gfmul128 d a b => ⟨.mul, .full .w128, 0, d, a, b, 0⟩
  | .gfmul256 d a b => ⟨.mul, .full .w256, 0, d, a, b, 0⟩
  | .gfmul512 d a b => ⟨.mul, .full .w512, 0, d, a, b, 0⟩
  | .gfmul512k d k a b => ⟨.mul, .merge, k, d, a, b, 0⟩
  | .gfmul512kz d k a b => ⟨.mul, .zero, k, d, a, b, 0⟩

/-- The mnemonic of a form, as `opcode_table.json` spells it (R93). -/
def Instr.mnemonic : Instr → String
  | .gfaffine128 .. => "GFAFFINE.128"
  | .gfaffine256 .. => "GFAFFINE.256"
  | .gfaffine512 .. => "GFAFFINE.512"
  | .gfaffine512k .. => "GFAFFINE.512.K"
  | .gfaffine512kz .. => "GFAFFINE.512.KZ"
  | .gfaffineinv128 .. => "GFAFFINEINV.128"
  | .gfaffineinv256 .. => "GFAFFINEINV.256"
  | .gfaffineinv512 .. => "GFAFFINEINV.512"
  | .gfaffineinv512k .. => "GFAFFINEINV.512.K"
  | .gfaffineinv512kz .. => "GFAFFINEINV.512.KZ"
  | .gfmul128 .. => "GFMUL.128"
  | .gfmul256 .. => "GFMUL.256"
  | .gfmul512 .. => "GFMUL.512"
  | .gfmul512k .. => "GFMUL.512.K"
  | .gfmul512kz .. => "GFMUL.512.KZ"

end Sys2Proof
end

