-- ==== Sys2Proof/WellFormed.lean ====
section
/-! DEFINITION. Well-formed instructions: the identifiers a command may name (`20_memory.md` R62). The widths of
`VId`, `KId` and `Byte` already bound every field; what is left to check is the register count of the instance. -/

namespace Sys2Proof

/-- The destination names one of the `NREG` vector registers. -/
def Shape.dstInRange (c : Config) (sh : Shape) : Bool := decide (sh.dst.toNat < c.nreg)

/-- Operand A names one of the `NREG` vector registers. -/
def Shape.srcAInRange (c : Config) (sh : Shape) : Bool := decide (sh.srcA.toNat < c.nreg)

/-- Operand B names one of the `NREG` vector registers. -/
def Shape.srcBInRange (c : Config) (sh : Shape) : Bool := decide (sh.srcB.toNat < c.nreg)

/-- A masked form's mask names one of the `NKREG` mask registers; an unmasked form names none (R40). -/
def Shape.kidInRange (c : Config) (sh : Shape) : Bool :=
  match sh.wb with
  | .full _ => true
  | .merge => decide (sh.kid.toNat < c.nkreg)
  | .zero => decide (sh.kid.toNat < c.nkreg)

/-- Every identifier of the command is in range for the instance `c` (R62). -/
def Shape.inRange (c : Config) (sh : Shape) : Bool :=
  sh.dstInRange c && sh.srcAInRange c && sh.srcBInRange c && sh.kidInRange c

/-- A well-formed instruction of the instance `c`. With `NREG = 32` and `NKREG = 8` every instruction is (R62). -/
def Instr.wellFormed (c : Config) (i : Instr) : Bool := i.shape.inRange c

end Sys2Proof
end

