-- ==== Sys2Proof/Decode.lean ====
section
/-! DEFINITION. The 32-bit command word (`30_encoding.md`): its fields, the decoder, total on all 2^32 words and
rejecting by cause (R89), and after it the encoder (R82, R83) and the opcode map (R93). -/

namespace Sys2Proof

/-- The ways a command word breaks the encoding contract (`60_exceptions.md` R226). -/
inductive Violation where
  /-- `CV_OPCODE` -/
  | opcode
  /-- `CV_WIDTH` -/
  | width
  /-- `CV_MASK_WIDTH` -/
  | maskWidth
  /-- `CV_RESERVED` -/
  | reserved
  deriving DecidableEq, Repr

/-- The 3-bit cause code of a violation (R226). -/
def Violation.code : Violation → BitVec 3
  | .opcode => 1
  | .width => 2
  | .maskWidth => 3
  | .reserved => 4

/-- The fields of a command word (R82). -/
structure Fields where
  op : BitVec 2
  vl : BitVec 2
  m : BitVec 1
  z : BitVec 1
  kid : KId
  dst : VId
  srcA : VId
  srcB : VId
  imm : Byte
  deriving DecidableEq, Repr

/-- The fields at their bit positions (R82). -/
def Fields.ofWord (cw : CommandWord) : Fields where
  op := cw.extractLsb' 0 2
  vl := cw.extractLsb' 2 2
  m := cw.extractLsb' 4 1
  z := cw.extractLsb' 5 1
  kid := cw.extractLsb' 6 3
  dst := cw.extractLsb' 9 5
  srcA := cw.extractLsb' 14 5
  srcB := cw.extractLsb' 19 5
  imm := cw.extractLsb' 24 8

/-- What decoding gives: one of the 15 forms with its operands, or the cause of a contract violation (R89). -/
inductive Decoded where
  | valid (i : Instr)
  | violation (c : Violation)
  deriving DecidableEq, Repr

/-- The checks of R89 in their order: the first that fails gives the cause (R229). -/
def Fields.check (f : Fields) : Option Violation :=
  if f.op = 3 then some .opcode
  else if f.vl = 3 then some .width
  else if f.m = 1 ∧ f.vl ≠ 2 then some .maskWidth
  else if f.m = 0 ∧ (f.z = 1 ∨ f.kid ≠ 0) then some .reserved
  else if f.op = 2 ∧ f.imm ≠ 0 then some .reserved
  else none

/-- The form `(OP, VL, M, Z)` of fields that passed the checks: a row of R93. -/
def Fields.form (f : Fields) : Instr :=
  if f.op = 0 then
    if f.m = 1 then
      if f.z = 1 then .gfaffine512kz f.dst f.kid f.srcA f.srcB f.imm
      else .gfaffine512k f.dst f.kid f.srcA f.srcB f.imm
    else if f.vl = 0 then .gfaffine128 f.dst f.srcA f.srcB f.imm
    else if f.vl = 1 then .gfaffine256 f.dst f.srcA f.srcB f.imm
    else .gfaffine512 f.dst f.srcA f.srcB f.imm
  else if f.op = 1 then
    if f.m = 1 then
      if f.z = 1 then .gfaffineinv512kz f.dst f.kid f.srcA f.srcB f.imm
      else .gfaffineinv512k f.dst f.kid f.srcA f.srcB f.imm
    else if f.vl = 0 then .gfaffineinv128 f.dst f.srcA f.srcB f.imm
    else if f.vl = 1 then .gfaffineinv256 f.dst f.srcA f.srcB f.imm
    else .gfaffineinv512 f.dst f.srcA f.srcB f.imm
  else
    if f.m = 1 then
      if f.z = 1 then .gfmul512kz f.dst f.kid f.srcA f.srcB
      else .gfmul512k f.dst f.kid f.srcA f.srcB
    else if f.vl = 0 then .gfmul128 f.dst f.srcA f.srcB
    else if f.vl = 1 then .gfmul256 f.dst f.srcA f.srcB
    else .gfmul512 f.dst f.srcA f.srcB

/-- Decoding the fields (R89). -/
def Fields.decode (f : Fields) : Decoded :=
  match f.check with
  | some c => .violation c
  | none => .valid f.form

/-- `Decode(CW)` of R89. -/
def decode (cw : CommandWord) : Decoded := (Fields.ofWord cw).decode

/-! ## The encoder -/

/-- The `OP` code of an operation (R82). -/
def Op.code : Op → BitVec 2
  | .affine => 0
  | .affineInv => 1
  | .mul => 2

/-- The `VL` code of a width (R82). -/
def Width.code : Width → BitVec 2
  | .w128 => 0
  | .w256 => 1
  | .w512 => 2

/-- The `M` bit of a discipline: 1 when a mask is used (R82). -/
def WriteBack.maskBit : WriteBack → BitVec 1
  | .full _ => 0
  | .merge => 1
  | .zero => 1

/-- The `Z` bit of a discipline: 0 merge, 1 zero, and 0 without a mask (R82). -/
def WriteBack.zeroBit : WriteBack → BitVec 1
  | .full _ => 0
  | .merge => 0
  | .zero => 1

/-- The fields that stand for a descriptor (R82). -/
def Shape.fields (sh : Shape) : Fields where
  op := sh.op.code
  vl := sh.wb.width.code
  m := sh.wb.maskBit
  z := sh.wb.zeroBit
  kid := sh.kid
  dst := sh.dst
  srcA := sh.srcA
  srcB := sh.srcB
  imm := sh.imm

/-- The command word of given fields, most significant field first: the pattern string of R82. -/
def Fields.pack (f : Fields) : CommandWord :=
  f.imm ++ f.srcB ++ f.srcA ++ f.dst ++ f.kid ++ f.z ++ f.m ++ f.vl ++ f.op

/-- The command word of an instruction. -/
def encode (i : Instr) : CommandWord := i.shape.fields.pack

/-! ## The opcode map -/

/-- One row of the opcode map: `CW` is the form of the row exactly when `CW &&& mask = mtch` (R93). -/
structure OpcodeRow where
  mnemonic : String
  mtch : CommandWord
  mask : CommandWord
  deriving DecidableEq, Repr

/-- The 15 rows of R93. -/
def opcodeMap : List OpcodeRow :=
  [ ⟨"GFAFFINE.128", 0x00000000, 0x000001FF⟩,
    ⟨"GFAFFINE.256", 0x00000004, 0x000001FF⟩,
    ⟨"GFAFFINE.512", 0x00000008, 0x000001FF⟩,
    ⟨"GFAFFINE.512.K", 0x00000018, 0x0000003F⟩,
    ⟨"GFAFFINE.512.KZ", 0x00000038, 0x0000003F⟩ ] ++
  [ ⟨"GFAFFINEINV.128", 0x00000001, 0x000001FF⟩,
    ⟨"GFAFFINEINV.256", 0x00000005, 0x000001FF⟩,
    ⟨"GFAFFINEINV.512", 0x00000009, 0x000001FF⟩,
    ⟨"GFAFFINEINV.512.K", 0x00000019, 0x0000003F⟩,
    ⟨"GFAFFINEINV.512.KZ", 0x00000039, 0x0000003F⟩ ] ++
  [ ⟨"GFMUL.128", 0x00000002, 0xFF0001FF⟩,
    ⟨"GFMUL.256", 0x00000006, 0xFF0001FF⟩,
    ⟨"GFMUL.512", 0x0000000A, 0xFF0001FF⟩,
    ⟨"GFMUL.512.K", 0x0000001A, 0xFF00003F⟩,
    ⟨"GFMUL.512.KZ", 0x0000003A, 0xFF00003F⟩ ]

/-- The command word is the form of the row (R93). -/
def OpcodeRow.matches (row : OpcodeRow) (cw : CommandWord) : Bool := decide (cw &&& row.mask = row.mtch)

/-- The word the opcode table's numbering gives: bits at and above `nbits` are 0. A command is one 32-bit word
(R81), so the table's bit numbers are the command word's own. -/
def tableWord (nbits w : Nat) : CommandWord := BitVec.ofNat 32 (w % 2 ^ nbits)

/-- The instruction the decoder reads from an opcode-table word, none where it finds a contract violation. -/
def decodeTableWord (nbits w : Nat) : Option Instr :=
  match decode (tableWord nbits w) with
  | .valid i => some i
  | .violation _ => none

end Sys2Proof
end

