-- ==== Sys2Proof/Machine/State.lean ====
section
/-! DEFINITION. The state of the unit (`10_state.md` R30), the environment's moves at its ports (R49, R51), the
reasons a step can stop, and the state after reset (`70_reset_and_hazards.md` R252). -/

namespace Sys2Proof.Machine

open Sys2Proof

/-- One transaction of the environment at the unit's ports (R49, R51, R265). -/
inductive Move where
  /-- Present a command word on the `cmd` port (R81, R176). -/
  | command (cw : CommandWord)
  /-- Request a reset on the `rst` port (R250). -/
  | reset
  /-- `EnvWriteV(r, x)`: set a vector register (R49). -/
  | writeV (r : VId) (x : VReg)
  /-- `EnvWriteK(k, m)`: set a mask register (R49). -/
  | writeK (k : KId) (m : KReg)
  /-- `EnvReadV(r)`: read a vector register (R49). -/
  | readV (r : VId)
  /-- `EnvReadK(k)`: read a mask register (R49). -/
  | readK (k : KId)
  /-- Observe the `status` port (R44, R265). -/
  | observeStatus
  deriving DecidableEq, Repr

/-- The state: the vector and mask register files, the status register and the command index (R30, R41), and two
fields of the model's own. The three field tables are constants, not fields (R46). -/
structure State where
  /-- `V[0..31]`, 512 bits each (R32, R33). -/
  v : Vector VReg 32
  /-- `K[0..7]`, 64 bits each (R38). -/
  k : Vector KReg 8
  /-- `STATUS`: bit 0 `HALTED`, bits 3:1 `CAUSE` (R44). -/
  status : BitVec 4
  /-- `cix`: the commands executed since reset, a modelling device of the spec (R41). -/
  cix : Nat
  /-- MODEL'S OWN: what the environment will do at the ports, next move first (assumption log 1). -/
  input : List Move
  /-- MODEL'S OWN: how many warm resets have been taken, which picks the free values (assumption log 3). -/
  resets : Nat
  deriving DecidableEq, Repr

/-- The unit "never raises architectural faults" and its list of exception causes is empty (R220): no step of the
model ends in a fault, so the type has no value. A contract violation is no fault of the model but a next state with
`STATUS` set (R225). -/
inductive Fault where
  deriving DecidableEq, Repr

/-- Why a step has no successor. -/
inductive Refusal where
  /-- An instruction without a meaning, by its mnemonic; no arm of `exec` uses it. Safe: the machine stops. -/
  | notModelled (mnemonic : String)
  /-- Raised by `step` when the environment makes no move: every transition of the unit is a command, a reset or a
  move of the environment (R240), so without one there is none. Safe: the machine stops (assumption log 2). -/
  | noMove
  /-- Raised for an instance with `NREG < 32` or `NKREG < 8`, by the shared command operation or by an environment move,
  when it is given an identifier out of range (R62); never raised at this hardware's values. Safe: the machine stops. -/
  | identifierOutOfRange
  /-- Raised by `stepIn` for an instance whose parameters are illegal (R10, R123); never raised at this hardware's
  values. Safe: the machine stops. -/
  | configuration
  deriving DecidableEq, Repr

/-- A launch state: what reset leaves (R252), with the register files at given contents, since the spec leaves
those arbitrary (R37, R40). -/
def State.launch (v : Vector VReg 32) (k : Vector KReg 8) : State where
  v := v
  k := k
  status := 0
  cix := 0
  input := []
  resets := 0

/-- The machine right after reset. DESIGN CHOICE (assumption log 4): the spec leaves `V` and `K` arbitrary and the
host needs one literal state, so they are zero here; claims quantify over `State.launch` instead. -/
def State.reset : State :=
  State.launch (Vector.replicate 32 (Vector.replicate 64 0)) (Vector.replicate 8 0)

end Sys2Proof.Machine
end

