-- ==== Sys2Proof/Machine/Flags.lean ====
section
/-! DEFINITION. The status register (`10_state.md` R44). The unit has no condition flag: "this core never modifies
arithmetic condition flags" (R42), so there is no flag computation to define. -/

namespace Sys2Proof.Machine

/-- `STATUS.HALTED`, bit 0 (R44). -/
def State.halted (s : State) : Bool := s.status.getLsbD 0

/-- `STATUS.CAUSE`, bits 3:1 (R44). -/
def State.cause (s : State) : BitVec 3 := s.status.extractLsb' 1 3

/-- The `STATUS` word of a unit halted with a cause: `CAUSE` above a set `HALTED` bit (R44, R225). -/
def haltedStatus (c : Violation) : BitVec 4 := c.code ++ 1#1

end Sys2Proof.Machine
end

