-- ==== Sys2Proof/Machine/Kernels.lean ====
section
/-! DEFINITION. The scalar byte kernels (`41_byte_kernels.md`): `affine` (R130, R131), `affineInverse` (R134),
`gfMultiply` (R136). All are total (R23). -/

namespace Sys2Proof.Machine

/-- `parity(x)`: the XOR of the 8 bits of a byte (R16). -/
def parity (x : Byte) : Bool :=
  x.getLsbD 0 ^^ x.getLsbD 1 ^^ x.getLsbD 2 ^^ x.getLsbD 3 ^^
    x.getLsbD 4 ^^ x.getLsbD 5 ^^ x.getLsbD 6 ^^ x.getLsbD 7

/-- The loop of R131: output bits `i - 1` down to 0, the rows still in `m`, the bits above in `out`. -/
def affineLoop : Nat → Matrix64 → Byte → Byte → Byte
  | 0, _, _, out => out
  | i + 1, m, value, out =>
    let row : Byte := m.setWidth 8
    let bit : Byte := (BitVec.ofBool (parity (row &&& value))).setWidth 8
    affineLoop i (m >>> 8) value (out ||| (bit <<< i))

/-- `affine(matrix, value, imm)` (R130, R131). -/
def affine (matrix : Matrix64) (value imm : Byte) : Byte := affineLoop 8 matrix value 0 ^^^ imm

/-- `affineInverse(matrix, value, imm)` (R134). -/
def affineInverse (matrix : Matrix64) (value imm : Byte) : Byte := affine matrix (inv value) imm

/-- `gfMultiply(a, b)` by the logarithm tables (R136). A sum of exactly 255 is not reduced (R137). -/
def gfMultiply (c : Config) (a b : Byte) : Byte :=
  if a = 0 ∨ b = 0 then 0
  else
    let sum := log c a + log c b
    exp c (if sum > 255 then sum - 255 else sum)

end Sys2Proof.Machine
end

