-- ==== Sys2Proof/Machine/Operands.lean ====
section
/-! DEFINITION. Reading and writing the register files (`10_state.md` R34, R35), the byte order of registers
(R14, R64) and the packing of lane bytes into a matrix (R65, R151). -/

namespace Sys2Proof.Machine

/-! ## The register files -/

/-- `V[r]` (R17, R32): every identifier names an ordinary register. -/
def State.vreg (s : State) (r : VId) : VReg := s.v[r.toNat]'r.isLt

/-- `K[k]` (R17, R38): every identifier, 0 among them, names an ordinary mask register. -/
def State.kreg (s : State) (k : KId) : KReg := s.k[k.toNat]'k.isLt

/-- `V[r] <- x`: the whole register (R35). -/
def State.setV (s : State) (r : VId) (x : VReg) : State := { s with v := s.v.set r.toNat x r.isLt }

/-- `K[k] <- m`, a move of the environment only (R40, R49). -/
def State.setK (s : State) (k : KId) (m : KReg) : State := { s with k := s.k.set k.toNat m k.isLt }

/-! ## Widths, lanes and byte order -/

/-- The register read interface: the low `16 * nl` bytes of a register (R34, R166). -/
def readLow (nl : Nat) (h : nl ≤ 4) (x : VReg) : Vector Byte (16 * nl) :=
  Vector.ofFn fun j => x[j.val]'(by omega)

/-- `X.lane[l]`: bytes 16l to 16l+15 (R14, R150). -/
def laneOf {nl : Nat} (x : Vector Byte (16 * nl)) (l : Fin nl) : Lane :=
  Vector.ofFn fun k => x[16 * l.val + k.val]'(by omega)

/-- A register as one 512-bit number: byte j is bits 8j+7 down to 8j (R14, R64). -/
def packVReg (x : VReg) : BitVec 512 :=
  x.toList.foldr (fun b acc => (acc <<< 8) ||| b.setWidth 512) 0

/-- The register of a 512-bit number (R14, R64). -/
def unpackVReg (w : BitVec 512) : VReg := Vector.ofFn fun j => w.extractLsb' (8 * j.val) 8

/-- Bytes 0..7 or bytes 8..15 of a lane as one 64-bit value, the lowest-indexed byte least significant (R65, R152). -/
def packMatrix (b : Lane) (base : Fin 9) : Matrix64 :=
  b[base.val + 7] ++ b[base.val + 6] ++ b[base.val + 5] ++ b[base.val + 4] ++
    b[base.val + 3] ++ b[base.val + 2] ++ b[base.val + 1] ++ b[base.val]

/-- `LaneMatrix(b, k)`: the matrix for value byte `k` of a lane, where `q(k) = k div MATRIX_SPAN` (R151). -/
def laneMatrix (c : Config) (b : Lane) (k : Fin 16) : Matrix64 :=
  match c.matrixSpan with
  | .s16 => packMatrix b 0
  | .s8 => if k.val < 8 then packMatrix b 0 else packMatrix b 8

end Sys2Proof.Machine
end

