-- ==== Sys2Proof/Machine/Lanes.lean ====
section
/-! DEFINITION. The Lane Processor (`42_lane_processor.md`): one kernel applied to each byte of a 16-byte lane. -/

namespace Sys2Proof.Machine

/-- `LaneAffine(a, b, imm)` (R154). -/
def laneAffine (c : Config) (a b : Lane) (imm : Byte) : Lane :=
  Vector.ofFn fun k => affine (laneMatrix c b k) a[k] imm

/-- `LaneAffineInv(a, b, imm)` (R155). -/
def laneAffineInv (c : Config) (a b : Lane) (imm : Byte) : Lane :=
  Vector.ofFn fun k => affineInverse (laneMatrix c b k) a[k] imm

/-- `LaneMul(a, b)` (R156). -/
def laneMul (c : Config) (a b : Lane) : Lane :=
  Vector.ofFn fun k => gfMultiply c a[k] b[k]

/-- `LaneOp(OP, a, b, imm)`: the multiply uses no immediate (R157). -/
def laneOp (c : Config) (op : Op) (imm : Byte) (a b : Lane) : Lane :=
  match op with
  | .affine => laneAffine c a b imm
  | .affineInv => laneAffineInv c a b imm
  | .mul => laneMul c a b

/-- Driving a lane function over `nl` lanes: `res.lane[l] = f(A.lane[l], B.lane[l])` (R166). -/
def driveLanes {nl : Nat} (f : Lane → Lane → Lane) (a b : Vector Byte (16 * nl)) : Vector Byte (16 * nl) :=
  let lanes : Vector Lane nl := Vector.ofFn fun l => f (laneOf a l) (laneOf b l)
  Vector.ofFn fun j => (lanes[j.val / 16]'(by omega))[j.val % 16]'(by omega)

end Sys2Proof.Machine
end

