-- ==== Sys2Proof/Machine/Adapter.lean ====
section
/-! DEFINITION. The Vector-Width and Masking Adapter (`43_adapter_writeback.md`): the computed bytes, the three
write-back disciplines, and `Exec`, the new value of the destination (R175). -/

namespace Sys2Proof.Machine

/-- `res`: the computed result, `16 * nl` bytes (R166). -/
def computed (c : Config) (op : Op) (imm : Byte) {nl : Nat} (a b : Vector Byte (16 * nl)) :
    Vector Byte (16 * nl) :=
  driveLanes (laneOp c op imm) a b

/-- `zext_512(res)`: the computed bytes, and 0x00 above the active width (R17, R168). -/
def zext512 {n : Nat} (res : Vector Byte n) : VReg :=
  Vector.ofFn fun j => if h : j.val < n then res[j.val] else 0

/-- Merge masking: where the mask bit is clear the old byte stays (R170). -/
def mergeMasked (m : KReg) (res old : VReg) : VReg :=
  Vector.ofFn fun j => if m.getLsbD j.val then res[j] else old[j]

/-- Zero masking: where the mask bit is clear the byte is 0x00 (R171). -/
def zeroMasked (m : KReg) (res : VReg) : VReg :=
  Vector.ofFn fun j => if m.getLsbD j.val then res[j] else 0

/-- `Exec(form, IMM8, A, B, Dold, k)`: the new 512-bit value of the destination (R175). -/
def execResult (c : Config) (op : Op) (wb : WriteBack) (imm : Byte) (a b old : VReg) (m : KReg) : VReg :=
  match wb with
  | .full w => zext512 (computed c op imm (readLow w.lanes w.lanes_le a) (readLow w.lanes w.lanes_le b))
  | .merge => mergeMasked m (computed c op imm (readLow 4 (by decide) a) (readLow 4 (by decide) b)) old
  | .zero => zeroMasked m (computed c op imm (readLow 4 (by decide) a) (readLow 4 (by decide) b))

end Sys2Proof.Machine
end

