-- ==== Sys2Proof/Machine/Ops.lean ====
section
/-! DEFINITION. The shared operations of the machine: executing a valid command (`43_adapter_writeback.md` R176), the
contract-violation halt, which is the unit's only abnormal event (`60_exceptions.md` R225), and beside it reset, the only
way out of the halt (`70_reset_and_hazards.md` R250). -/

namespace Sys2Proof.Machine

/-- What a step of the model answers. -/
abbrev Result := Host.Outcome State Fault Refusal

/-- The one register write of a valid command, and the advance of the command index (R35, R41, R176). -/
def State.commit (s : State) (d : VId) (x : VReg) : State :=
  { s.setV d x with cix := s.cix + 1 }

/-- A valid command on the instance `c`. All reads are of the state before it, then `V[DST]` is written (R18, R176). A
halted unit accepts no command: nothing changes (R228, D22; assumption log 5). An identifier beyond the instance's
register count is refused (R62). -/
def runCommand (c : Config) (sh : Shape) (s : State) : Result :=
  if s.halted then .next s
  else if sh.inRange c then
    .next (s.commit sh.dst
      (execResult c sh.op sh.wb sh.imm (s.vreg sh.srcA) (s.vreg sh.srcB) (s.vreg sh.dst) (s.kreg sh.kid)))
  else .refused .identifierOutOfRange

/-- The halt on a contract violation: `STATUS` is written and nothing else changes (R225). While the unit is halted it
accepts no command, so `CAUSE` keeps the first cause (R44, R228). -/
def haltUnit (c : Violation) (s : State) : State :=
  if s.halted then s else { s with status := haltedStatus c }

/-- Reset: `STATUS` and `cix` become 0, and every bit of `V` and `K` is unspecified again (R252, R253), a free value
picked by the count of resets (assumption log 3). It may be presented in any state (R250). -/
def resetUnit (s : State) : State :=
  { s with
    v := Vector.ofFn (Config.resetV s.resets)
    k := Vector.ofFn (Config.resetK s.resets)
    status := 0
    cix := 0
    resets := s.resets + 1 }

end Sys2Proof.Machine
end

