-- ==== Sys2Proof/Machine/Gfaffine.lean ====
section
/-! DEFINITION. The `GFAFFINE` family (`44_instr_gfaffine.md` R190): every value byte of operand A is transformed by the 8×8 bit matrix of operand B's lane and XORed with the immediate. Five forms. -/

namespace Sys2Proof.Machine

/-- `GFAFFINE.128` (R191): one lane, bytes 16..63 of the destination become zero. -/
def execGfaffine128 (dst srcA srcB : VId) (imm : Byte) (s : State) : Result :=
  runCommand Config.unit ⟨.affine, .full .w128, 0, dst, srcA, srcB, imm⟩ s

/-- `GFAFFINE.256` (R192): two lanes, each with its own matrix, bytes 32..63 become zero. -/
def execGfaffine256 (dst srcA srcB : VId) (imm : Byte) (s : State) : Result :=
  runCommand Config.unit ⟨.affine, .full .w256, 0, dst, srcA, srcB, imm⟩ s

/-- `GFAFFINE.512` (R193): four lanes. -/
def execGfaffine512 (dst srcA srcB : VId) (imm : Byte) (s : State) : Result :=
  runCommand Config.unit ⟨.affine, .full .w512, 0, dst, srcA, srcB, imm⟩ s

/-- `GFAFFINE.512.K` (R194): four lanes under `K[KID]`, merge masking. -/
def execGfaffine512k (dst : VId) (kid : KId) (srcA srcB : VId) (imm : Byte) (s : State) : Result :=
  runCommand Config.unit ⟨.affine, .merge, kid, dst, srcA, srcB, imm⟩ s

/-- `GFAFFINE.512.KZ` (R195): four lanes under `K[KID]`, zero masking. -/
def execGfaffine512kz (dst : VId) (kid : KId) (srcA srcB : VId) (imm : Byte) (s : State) : Result :=
  runCommand Config.unit ⟨.affine, .zero, kid, dst, srcA, srcB, imm⟩ s

end Sys2Proof.Machine
end

