-- ==== Sys2Proof/Machine/Gfaffineinv.lean ====
section
/-! DEFINITION. The `GFAFFINEINV` family (`45_instr_gfaffineinv.md` R200): every value byte of operand A is replaced by its field inverse, then transformed by the matrix of operand B's lane and XORed with the immediate. Five forms. -/

namespace Sys2Proof.Machine

/-- `GFAFFINEINV.128` (R201): one lane, bytes 16..63 of the destination become zero. -/
def execGfaffineinv128 (dst srcA srcB : VId) (imm : Byte) (s : State) : Result :=
  runCommand Config.unit ⟨.affineInv, .full .w128, 0, dst, srcA, srcB, imm⟩ s

/-- `GFAFFINEINV.256` (R202): two lanes, each with its own matrix, bytes 32..63 become zero. -/
def execGfaffineinv256 (dst srcA srcB : VId) (imm : Byte) (s : State) : Result :=
  runCommand Config.unit ⟨.affineInv, .full .w256, 0, dst, srcA, srcB, imm⟩ s

/-- `GFAFFINEINV.512` (R203): four lanes. -/
def execGfaffineinv512 (dst srcA srcB : VId) (imm : Byte) (s : State) : Result :=
  runCommand Config.unit ⟨.affineInv, .full .w512, 0, dst, srcA, srcB, imm⟩ s

/-- `GFAFFINEINV.512.K` (R204): four lanes under `K[KID]`, merge masking. -/
def execGfaffineinv512k (dst : VId) (kid : KId) (srcA srcB : VId) (imm : Byte) (s : State) : Result :=
  runCommand Config.unit ⟨.affineInv, .merge, kid, dst, srcA, srcB, imm⟩ s

/-- `GFAFFINEINV.512.KZ` (R205): four lanes under `K[KID]`, zero masking. -/
def execGfaffineinv512kz (dst : VId) (kid : KId) (srcA srcB : VId) (imm : Byte) (s : State) : Result :=
  runCommand Config.unit ⟨.affineInv, .zero, kid, dst, srcA, srcB, imm⟩ s

end Sys2Proof.Machine
end

