-- ==== Sys2Proof/Machine/Gfmul.lean ====
section
/-! DEFINITION. The `GFMUL` family (`46_instr_gfmul.md` R210): each byte of operand A is multiplied by the byte of operand B at the same position, in GF(2^8). Five forms. -/

namespace Sys2Proof.Machine

/-- `GFMUL.128` (R211): one lane, bytes 16..63 of the destination become zero. -/
def execGfmul128 (dst srcA srcB : VId) (s : State) : Result :=
  runCommand Config.unit ⟨.mul, .full .w128, 0, dst, srcA, srcB, 0⟩ s

/-- `GFMUL.256` (R212): two lanes, bytes 32..63 become zero. -/
def execGfmul256 (dst srcA srcB : VId) (s : State) : Result :=
  runCommand Config.unit ⟨.mul, .full .w256, 0, dst, srcA, srcB, 0⟩ s

/-- `GFMUL.512` (R213): four lanes. -/
def execGfmul512 (dst srcA srcB : VId) (s : State) : Result :=
  runCommand Config.unit ⟨.mul, .full .w512, 0, dst, srcA, srcB, 0⟩ s

/-- `GFMUL.512.K` (R214): four lanes under `K[KID]`, merge masking. -/
def execGfmul512k (dst : VId) (kid : KId) (srcA srcB : VId) (s : State) : Result :=
  runCommand Config.unit ⟨.mul, .merge, kid, dst, srcA, srcB, 0⟩ s

/-- `GFMUL.512.KZ` (R215): four lanes under `K[KID]`, zero masking. -/
def execGfmul512kz (dst : VId) (kid : KId) (srcA srcB : VId) (s : State) : Result :=
  runCommand Config.unit ⟨.mul, .zero, kid, dst, srcA, srcB, 0⟩ s

end Sys2Proof.Machine
end

