-- ==== Sys2Proof/Machine/Dispatch.lean ====
section
/-! DEFINITION. The dispatch: one arm per form of the instruction set (`30_encoding.md` R93). -/

namespace Sys2Proof.Machine

def exec (i : Instr) (s : State) : Host.Outcome State Fault Refusal :=
  match i with
  | .gfaffine128 dst srcA srcB imm => Sys2Proof.Machine.execGfaffine128 dst srcA srcB imm s
  | .gfaffine256 dst srcA srcB imm => Sys2Proof.Machine.execGfaffine256 dst srcA srcB imm s
  | .gfaffine512 dst srcA srcB imm => Sys2Proof.Machine.execGfaffine512 dst srcA srcB imm s
  | .gfaffine512k dst kid srcA srcB imm => Sys2Proof.Machine.execGfaffine512k dst kid srcA srcB imm s
  | .gfaffine512kz dst kid srcA srcB imm => Sys2Proof.Machine.execGfaffine512kz dst kid srcA srcB imm s
  | .gfaffineinv128 dst srcA srcB imm => Sys2Proof.Machine.execGfaffineinv128 dst srcA srcB imm s
  | .gfaffineinv256 dst srcA srcB imm => Sys2Proof.Machine.execGfaffineinv256 dst srcA srcB imm s
  | .gfaffineinv512 dst srcA srcB imm => Sys2Proof.Machine.execGfaffineinv512 dst srcA srcB imm s
  | .gfaffineinv512k dst kid srcA srcB imm => Sys2Proof.Machine.execGfaffineinv512k dst kid srcA srcB imm s
  | .gfaffineinv512kz dst kid srcA srcB imm => Sys2Proof.Machine.execGfaffineinv512kz dst kid srcA srcB imm s
  | .gfmul128 dst srcA srcB => Sys2Proof.Machine.execGfmul128 dst srcA srcB s
  | .gfmul256 dst srcA srcB => Sys2Proof.Machine.execGfmul256 dst srcA srcB s
  | .gfmul512 dst srcA srcB => Sys2Proof.Machine.execGfmul512 dst srcA srcB s
  | .gfmul512k dst kid srcA srcB => Sys2Proof.Machine.execGfmul512k dst kid srcA srcB s
  | .gfmul512kz dst kid srcA srcB => Sys2Proof.Machine.execGfmul512kz dst kid srcA srcB s

end Sys2Proof.Machine
end

