-- ==== Sys2Proof/Machine/Moves.lean ====
section
/-! DEFINITION. The unit's transitions, one per move of the environment (`60_exceptions.md` R240): a presented command word
(`43_adapter_writeback.md` R176), reset (`70_reset_and_hazards.md` R250), and the environment's own moves between commands
(`10_state.md` R49). -/

namespace Sys2Proof.Machine

/-- `Step(state, CW)` (R176): a valid word runs its form, a violating word halts the unit. -/
def presentCommand (cw : CommandWord) (s : State) : Result :=
  match decode cw with
  | .valid i => exec i s
  | .violation c => .next (haltUnit c s)

/-- One move, on the state without it. Reads and the observation of `status` change nothing (R49, R70). -/
def runMove (mv : Move) (s : State) : Result :=
  match mv with
  | .command cw => presentCommand cw s
  | .reset => .next (resetUnit s)
  | .writeV r x => .next (s.setV r x)
  | .writeK k m => .next (s.setK k m)
  | .readV _ => .next s
  | .readK _ => .next s
  | .observeStatus => .next s

/-- What a move returns to the environment: a register's current value or the `status` port (R44, R49). -/
inductive Reply where
  | vreg (x : VReg)
  | kreg (m : KReg)
  | status (b : BitVec 4)
  deriving DecidableEq, Repr

/-- The answer of the reading moves; the others return nothing (R49, R51). -/
def reply (mv : Move) (s : State) : Option Reply :=
  match mv with
  | .command _ => none
  | .reset => none
  | .writeV _ _ => none
  | .writeK _ _ => none
  | .readV r => some (.vreg (s.vreg r))
  | .readK k => some (.kreg (s.kreg k))
  | .observeStatus => some (.status s.status)

/-- The word of the opcode table presented as the next command, before every move already waiting. -/
def presentNext (nbits w : Nat) (s : State) : State :=
  { s with input := .command (tableWord nbits w) :: s.input }

end Sys2Proof.Machine
end

