-- ==== Sys2Proof/Machine/Step.lean ====
section
/-! DEFINITION. The step: the environment's next move is taken from the input and run. -/

namespace Sys2Proof.Machine

/-- One step: one transaction (R240, R262). With no move waiting there is no transition (assumption log 2). -/
def step (s : State) : Host.Outcome State Fault Refusal :=
  match s.input with
  | [] => .refused .noMove
  | mv :: rest => runMove mv { s with input := rest }

/-- `s` with an opcode-table word presented on the `cmd` port as the very next move (assumption log 6). -/
def State.withFetchWord (s : State) (nbits w : Nat) : State := presentNext nbits w s

end Sys2Proof.Machine
end

