-- ==== Sys2Proof/Machine/Assembly.lean ====
section
/-! DEFINITION. The assembler's view of the instruction set (`30_encoding.md` R95, R96): the written form of an instruction
and the one pseudo-instruction family. -/

namespace Sys2Proof.Machine

open Sys2Proof

/-- The operation names of R2. -/
def opName : Op → String
  | .affine => "GFAFFINE"
  | .affineInv => "GFAFFINEINV"
  | .mul => "GFMUL"

/-- The width suffix of R95; the masked shapes are written with `.512`. -/
def widthName : Width → String
  | .w128 => "128"
  | .w256 => "256"
  | .w512 => "512"

/-- `vN` (R95). -/
def vName (r : VId) : String := "v" ++ toString r.toNat

/-- A decoration in braces (R95); 123 and 125 are the codes of the two braces. -/
def braced (t : String) : String :=
  (Char.ofNat 123).toString ++ t ++ (Char.ofNat 125).toString

/-- The mask decoration: a braced `kN` exactly when `M = 1`, a braced `z` exactly when `Z = 1` (R95). -/
def maskName (wb : WriteBack) (kid : KId) : String :=
  match wb with
  | .full _ => ""
  | .merge => braced ("k" ++ toString kid.toNat)
  | .zero => braced ("k" ++ toString kid.toNat) ++ braced "z"

/-- An instruction in the syntax of R95, the immediate in decimal and absent for `GFMUL`. -/
def assembly (i : Instr) : String :=
  let sh := i.shape
  let operands := opName sh.op ++ "." ++ widthName sh.wb.width ++ " " ++ vName sh.dst ++ maskName sh.wb sh.kid ++
    ", " ++ vName sh.srcA ++ ", " ++ vName sh.srcB
  match sh.op with
  | .affine => operands ++ ", " ++ toString sh.imm.toNat
  | .affineInv => operands ++ ", " ++ toString sh.imm.toNat
  | .mul => operands

/-- A written instruction, its parts read off the text (R95). `srcA` is absent in a pseudo-instruction (R96); `mask` is
the `kN` decoration and `zeroing` the `z` one. -/
structure Line where
  op : Op
  width : Width
  dst : VId
  mask : Option KId
  zeroing : Bool
  srcA : Option VId
  srcB : VId
  imm : Option Byte
  deriving DecidableEq, Repr

/-- The discipline and mask identifier a decoration stands for. A mask on a `.128` or `.256` mnemonic is an assembly
error (R95), and the `z` decoration has no written shape without a mask. -/
def Line.discipline (l : Line) : Option (WriteBack × KId) :=
  match l.mask with
  | none => if l.zeroing then none else some (.full l.width, 0)
  | some k =>
    if l.width = .w512 then (if l.zeroing then some (.zero, k) else some (.merge, k)) else none

/-- The immediate field: written for the affine operations, not written for `GFMUL`, whose field is 0 (R92, R95). -/
def Line.immediate (l : Line) : Option Byte :=
  match l.op with
  | .affine => l.imm
  | .affineInv => l.imm
  | .mul => if l.imm = none then some 0 else none

/-- The assembler: the instruction a line stands for, none where it is an assembly error. An omitted operand A is the
destination again: the one-source shape (R85, R96). -/
def assemble (l : Line) : Option Instr :=
  match l.discipline, l.immediate with
  | some (wb, k), some imm => some (Shape.mk l.op wb k l.dst (l.srcA.getD l.dst) l.srcB imm).fields.form
  | _, _ => none

end Sys2Proof.Machine
end

