-- ==== Sys2Proof/Machine/Instance.lean ====
section
/-! DEFINITION. The unit at other parameters (`00_scope.md` R10, R11; `70_reset_and_hazards.md` R266): the same step with the
configuration as an argument, so that a claim can name the instance it holds for. -/

namespace Sys2Proof.Machine

/-- `Step(state, CW)` of the instance `c` (R176). -/
def presentCommandIn (c : Config) (cw : CommandWord) (s : State) : Result :=
  match decode cw with
  | .valid i => runCommand c i.shape s
  | .violation v => .next (haltUnit v s)

/-- The register an environment move names is one the instance has (R62). A command word's own identifiers are checked
by `runCommand`, once it is decoded. -/
def Move.inRange (c : Config) (mv : Move) : Bool :=
  match mv with
  | .command _ => true
  | .reset => true
  | .writeV r _ => decide (r.toNat < c.nreg)
  | .writeK k _ => decide (k.toNat < c.nkreg)
  | .readV r => decide (r.toNat < c.nreg)
  | .readK k => decide (k.toNat < c.nkreg)
  | .observeStatus => true

/-- One move on the instance `c`. A move that names a register the instance lacks is refused (R62; assumption log 10);
any other move but a command does not depend on the parameters. -/
def runMoveIn (c : Config) (mv : Move) (s : State) : Result :=
  if mv.inRange c then
    match mv with
    | .command cw => presentCommandIn c cw s
    | .reset => runMove .reset s
    | .writeV r x => runMove (.writeV r x) s
    | .writeK k m => runMove (.writeK k m) s
    | .readV r => runMove (.readV r) s
    | .readK k => runMove (.readK k) s
    | .observeStatus => runMove .observeStatus s
  else .refused .identifierOutOfRange

/-- One step of the instance `c`. An illegal configuration, such as a `GEN` that generates nothing, is refused
(R10, R123; assumption log 9). -/
def stepIn (c : Config) (s : State) : Result :=
  if acceptable c then
    match s.input with
    | [] => .refused .noMove
    | mv :: rest => runMoveIn c mv { s with input := rest }
  else .refused .configuration

end Sys2Proof.Machine
end

