-- ==== Sys2Proof/Machine/Ports.lean ====
section
/-! DEFINITION. The transfers of one command at the unit's ports (`10_state.md` R51, R52; `20_memory.md` R68). They hold no
state; they say which bytes cross the boundary. -/

namespace Sys2Proof.Machine

/-- One transfer at a register port, with its payload (R51). -/
inductive Transfer where
  /-- `rdA`: operand A, the low bytes of the active width. -/
  | rdA (id : VId) (w : Width) (data : List Byte)
  /-- `rdB`: operand B, the low bytes of the active width. -/
  | rdB (id : VId) (w : Width) (data : List Byte)
  /-- `rdD`: the old destination, all 64 bytes; used only when `M = 1` and `Z = 0`. -/
  | rdD (id : VId) (data : VReg)
  /-- `rdK`: the mask, 64 bits; used only when `M = 1`. -/
  | rdK (id : KId) (data : KReg)
  /-- `wr`: the destination, all 64 bytes. -/
  | wr (id : VId) (data : VReg)
  deriving DecidableEq, Repr

/-- The register reads a valid command makes, all before its write (R34, R51, R68). -/
def reads (sh : Shape) (s : State) : List Transfer :=
  let w := sh.wb.width
  let operands := [.rdA sh.srcA w (readLow w.lanes w.lanes_le (s.vreg sh.srcA)).toList,
    .rdB sh.srcB w (readLow w.lanes w.lanes_le (s.vreg sh.srcB)).toList]
  match sh.wb with
  | .full _ => operands
  | .merge => operands ++ [.rdK sh.kid (s.kreg sh.kid), .rdD sh.dst (s.vreg sh.dst)]
  | .zero => operands ++ [.rdK sh.kid (s.kreg sh.kid)]

/-- The one register write a valid command makes: the full 512-bit new value of the destination (R35, R52). -/
def write (c : Config) (sh : Shape) (s : State) : Transfer :=
  .wr sh.dst (execResult c sh.op sh.wb sh.imm (s.vreg sh.srcA) (s.vreg sh.srcB) (s.vreg sh.dst) (s.kreg sh.kid))

/-- The transfer is on the `wr` port (R51). -/
def Transfer.isWrite (tr : Transfer) : Bool :=
  match tr with
  | .rdA _ _ _ => false
  | .rdB _ _ _ => false
  | .rdD _ _ => false
  | .rdK _ _ => false
  | .wr _ _ => true

/-- The transfers of a presented command word. A violating word writes nothing and need exercise no read port (R225,
R227); that it moves nothing is assumption log 12. A halted unit takes no command (R228). -/
def transfers (cw : CommandWord) (s : State) : List Transfer :=
  if s.halted then []
  else
    match decode cw with
    | .valid i => reads i.shape s ++ [write Config.unit i.shape s]
    | .violation _ => []

end Sys2Proof.Machine
end

