-- ==== Sys2Proof/Safety.lean ====
section
/-! DEFINITION. What counts as a safe run, in the terms the claims use: a legal status word (`10_state.md` R44,
`60_exceptions.md` R226), and an environment that keeps the encoding contract (`60_exceptions.md` R224,
`70_reset_and_hazards.md` R261). -/

namespace Sys2Proof.Machine

/-- `STATUS` holds a legal value: `CAUSE` is 0 while the unit runs, and one of the codes 1 to 4 while it is halted
(R44, R226). -/
abbrev StatusLegal (s : State) : Prop :=
  (s.halted = false → s.cause = 0) ∧ (s.halted = true → 1 ≤ s.cause.toNat ∧ s.cause.toNat ≤ 4)

/-- The move presents no violating command word (R224, R261). -/
def Move.keepsContract (mv : Move) : Bool :=
  match mv with
  | .command cw =>
    match decode cw with
    | .valid _ => true
    | .violation _ => false
  | .reset => true
  | .writeV _ _ => true
  | .writeK _ _ => true
  | .readV _ => true
  | .readK _ => true
  | .observeStatus => true

/-- Every move still to come keeps the contract (R261). -/
def State.contractKept (s : State) : Bool := s.input.all Move.keepsContract

/-- The move presents a command word. -/
def Move.isCommand (mv : Move) : Bool :=
  match mv with
  | .command _ => true
  | .reset => false
  | .writeV _ _ => false
  | .writeK _ _ => false
  | .readV _ => false
  | .readK _ => false
  | .observeStatus => false

end Sys2Proof.Machine
end

