-- ==== Sys2Proof/Certificates/Slice0/Obligations.lean ====
section
/-! DEFINITION. The statements for the provers. The terms of the first section are written from the rules' own formulas,
apart from the model's pipeline of lanes and adapter, so that a statement compares the two. -/

namespace Sys2Proof.Claims

open Sys2Proof Sys2Proof.Machine

/-- `mat`: `b.byte[0] | b.byte[1] << 8 | ... | b.byte[7] << 56` of lane `l` of operand B (R191 to R195, R196). -/
def laneMat (b : VReg) (l : Fin 4) : Matrix64 :=
  (List.finRange 8).foldl
    (fun acc j => acc ||| ((b[16 * l.val + j.val]'(by omega)).setWidth 64 <<< (8 * j.val))) 0

/-- The lane of a byte position. -/
def laneIdx (j : Fin 64) : Fin 4 := ⟨j.val / 16, by omega⟩

/-- The computed byte j of a `GFAFFINE` form (R196). -/
def affineByte (a b : VReg) (imm : Byte) (j : Fin 64) : Byte := affine (laneMat b (laneIdx j)) a[j] imm

/-- The computed byte j of a `GFAFFINEINV` form (R206). -/
def affineInvByte (a b : VReg) (imm : Byte) (j : Fin 64) : Byte :=
  affine (laneMat b (laneIdx j)) (inv a[j]) imm

/-- The computed byte j of a `GFMUL` form, by the table kernel (R211 to R215). -/
def mulByte (a b : VReg) (j : Fin 64) : Byte := gfMultiply Config.unit a[j] b[j]

/-- The register made of given bytes. -/
def regOf (f : Fin 64 → Byte) : VReg := Vector.ofFn f

/-- Bytes 0..n-1 computed, zeros above (R168). -/
def lowBytes (n : Nat) (f : Fin 64 → Byte) : VReg := regOf fun j => if j.val < n then f j else 0x00

/-- `r.byte[j] if m.bit[j] == 1 else e.byte[j]` (R170, R171). -/
def underMask (m : KReg) (f e : Fin 64 → Byte) : VReg := regOf fun j => if m.getLsbD j.val = true then f j else e j

/-- The unit executes `i` in `s` and that is all that happens: the destination `d` holds `x`, `cix` is one more, and
every other register, every mask, `STATUS`, the waiting moves and the count of resets are as before. -/
def Writes (i : Instr) (s : State) (d : VId) (x : VReg) : Prop :=
  exec i s = .next { s with v := s.v.set d.toNat x d.isLt, cix := s.cix + 1 }

/-- A command word is the form with this mnemonic exactly when `CW & mask == match` (R93). -/
def EncodedBy (mnemonic : String) (mtch mask : CommandWord) : Prop :=
  ∀ cw, (∃ i, decode cw = .valid i ∧ i.mnemonic = mnemonic) ↔ cw &&& mask = mtch

/-! The bit fields of a command word, by integer division (R82). -/

def opOf (cw : CommandWord) : Nat := cw.toNat % 4
def vlOf (cw : CommandWord) : Nat := cw.toNat / 4 % 4
def mOf (cw : CommandWord) : Nat := cw.toNat / 16 % 2
def zOf (cw : CommandWord) : Nat := cw.toNat / 32 % 2
def kidOf (cw : CommandWord) : Nat := cw.toNat / 64 % 8
def dstOf (cw : CommandWord) : Nat := cw.toNat / 512 % 32
def srcAOf (cw : CommandWord) : Nat := cw.toNat / 16384 % 32
def srcBOf (cw : CommandWord) : Nat := cw.toNat / 524288 % 32
def immOf (cw : CommandWord) : Nat := cw.toNat / 16777216

/-- The identity matrix as lane bytes 0..7 (R153). -/
def identityRows (b : VReg) (l : Fin 4) : Prop := laneMat b l = 0x0102040810204080

end Sys2Proof.Claims

open Sys2Proof Sys2Proof.Machine Sys2Proof.Claims

/-! ## Encoding -/

/-- R82, R83: the encoder composes the nine fields at their positions, unsigned and unshifted. -/
def Obligations.EncodeComposesFields : Prop :=
  ∀ i : Instr,
    encode i = i.shape.op.code.setWidth 32 ||| (i.shape.wb.width.code.setWidth 32 <<< 2) |||
      (i.shape.wb.maskBit.setWidth 32 <<< 4) ||| (i.shape.wb.zeroBit.setWidth 32 <<< 5) |||
      (i.shape.kid.setWidth 32 <<< 6) ||| (i.shape.dst.setWidth 32 <<< 9) ||| (i.shape.srcA.setWidth 32 <<< 14) |||
      (i.shape.srcB.setWidth 32 <<< 19) ||| (i.shape.imm.setWidth 32 <<< 24)

/-- R82, R83, R89: decoding an encoded instruction gives it back, every operand at every value. -/
def Obligations.DecodeEncodeRoundTrip : Prop := ∀ i : Instr, decode (encode i) = .valid i

/-- R92, R93: each form has one word per setting of its operands; a valid word is the encoding of what it decodes to. -/
def Obligations.ValidWordIsItsEncoding : Prop := ∀ cw i, decode cw = .valid i → encode i = cw

/-- R89: the checks in their order, the first that fails gives the cause; otherwise the form and its fields. -/
def Obligations.DecodeFollowsTheChecks : Prop :=
  ∀ cw : CommandWord,
    (opOf cw = 3 → decode cw = .violation .opcode) ∧
    (opOf cw ≠ 3 → vlOf cw = 3 → decode cw = .violation .width) ∧
    (opOf cw ≠ 3 → vlOf cw ≠ 3 → mOf cw = 1 → vlOf cw ≠ 2 → decode cw = .violation .maskWidth) ∧
    (opOf cw ≠ 3 → vlOf cw ≠ 3 → mOf cw = 0 → (zOf cw = 1 ∨ kidOf cw ≠ 0) → decode cw = .violation .reserved) ∧
    (opOf cw = 2 → vlOf cw ≠ 3 → (mOf cw = 1 → vlOf cw = 2) → (mOf cw = 0 → zOf cw = 0 ∧ kidOf cw = 0) →
      immOf cw ≠ 0 → decode cw = .violation .reserved) ∧
    (opOf cw ≠ 3 → vlOf cw ≠ 3 → (mOf cw = 1 → vlOf cw = 2) → (mOf cw = 0 → zOf cw = 0 ∧ kidOf cw = 0) →
      (opOf cw = 2 → immOf cw = 0) →
      ∃ i, decode cw = .valid i ∧ i.shape.op.code.toNat = opOf cw ∧ i.shape.wb.width.code.toNat = vlOf cw ∧
        i.shape.wb.maskBit.toNat = mOf cw ∧ i.shape.wb.zeroBit.toNat = zOf cw ∧ i.shape.kid.toNat = kidOf cw ∧
        i.shape.dst.toNat = dstOf cw ∧ i.shape.srcA.toNat = srcAOf cw ∧ i.shape.srcB.toNat = srcBOf cw ∧
        i.shape.imm.toNat = immOf cw)

/-- R93: a word is the form of a row exactly when it matches; the rows are pairwise disjoint; a word that matches no
row is a contract violation. -/
def Obligations.OpcodeMapIsExact : Prop :=
  (∀ row ∈ opcodeMap, EncodedBy row.mnemonic row.mtch row.mask) ∧
  opcodeMap.Pairwise (fun r q => ∀ cw, ¬(r.matches cw = true ∧ q.matches cw = true)) ∧
  ∀ cw, (∀ row ∈ opcodeMap, row.matches cw = false) → ∃ c, decode cw = .violation c

/-- R94: 57 of the 512 settings of bits 8:0 are valid with `IMM8 = 0`, and 319,389,696 words in all. -/
def Obligations.CountOfValidWords : Prop :=
  ((List.range 512).filter fun n => (decodeTableWord 32 n).isSome).length = 57 ∧
  Nat.card { cw : CommandWord // ∃ i, decode cw = .valid i } = 319389696

/-- R229: the reported cause is the first failing check, in the order of increasing cause code, with the rule's examples. -/
def Obligations.FirstFailingCheckIsReported : Prop :=
  (∀ cw, decode cw = .violation .opcode ↔ opOf cw = 3) ∧
  (∀ cw, decode cw = .violation .width ↔ opOf cw ≠ 3 ∧ vlOf cw = 3) ∧
  (∀ cw, decode cw = .violation .maskWidth ↔ opOf cw ≠ 3 ∧ mOf cw = 1 ∧ (vlOf cw = 0 ∨ vlOf cw = 1)) ∧
  (∀ cw, decode cw = .violation .reserved ↔
    opOf cw ≠ 3 ∧ vlOf cw ≠ 3 ∧ ¬(mOf cw = 1 ∧ (vlOf cw = 0 ∨ vlOf cw = 1)) ∧
      ((mOf cw = 0 ∧ (zOf cw = 1 ∨ kidOf cw ≠ 0)) ∨ (opOf cw = 2 ∧ immOf cw ≠ 0))) ∧
  Violation.opcode.code.toNat < Violation.width.code.toNat ∧
  Violation.width.code.toNat < Violation.maskWidth.code.toNat ∧
  Violation.maskWidth.code.toNat < Violation.reserved.code.toNat ∧
  decode 0x0000001F = .violation .opcode ∧ decode 0x0000001C = .violation .width ∧
  decode 0x01000012 = .violation .maskWidth

/-- R97: the worked encodings, both ways. -/
def Obligations.WorkedEncodings : Prop :=
  decode 0x00104000 = .valid (.gfaffine128 0 1 2 0x00) ∧ encode (.gfaffine128 0 1 2 0x00) = 0x00104000 ∧
  decode 0x63104001 = .valid (.gfaffineinv128 0 1 2 0x63) ∧ encode (.gfaffineinv128 0 1 2 0x63) = 0x63104001 ∧
  decode 0x0020C606 = .valid (.gfmul256 3 3 4) ∧ encode (.gfmul256 3 3 4) = 0x0020C606 ∧
  decode 0x0041CC5A = .valid (.gfmul512k 6 1 7 8) ∧ encode (.gfmul512k 6 1 7 8) = 0x0041CC5A ∧
  decode 0xFF5A92B8 = .valid (.gfaffine512kz 9 2 10 11 0xFF) ∧
  encode (.gfaffine512kz 9 2 10 11 0xFF) = 0xFF5A92B8

/-! ## Field tables and kernels -/

/-- R113: the properties of `INV`. -/
def Obligations.InverseTableProperties : Prop :=
  inv 0 = 0 ∧ inv 1 = 1 ∧ (∀ a : Byte, inv (inv a) = a) ∧ (∀ a : Byte, a ≠ 0 → gfMulRef a (inv a) = 1) ∧
  Function.Bijective inv

/-- R111: for every nonzero a, `INV[a]` is the one byte whose product with a is 1. -/
def Obligations.InverseIsUnique : Prop :=
  inv 0 = 0 ∧ ∀ a : Byte, a ≠ 0 → ∀ b : Byte, gfMulRef a b = 1 ↔ b = inv a

/-- R115, R123: the definition of `EXP` and `LOG`, for every generator an instance may take. -/
def Obligations.LogAndExpOfEveryGenerator : Prop :=
  ∀ c : Config, isGenerator c.gen = true →
    exp c 0 = 1 ∧ (∀ i, i < 255 → exp c (i + 1) = gfMulRef (exp c i) c.gen) ∧ exp c 255 = 1 ∧
    (∀ i, i < 255 → log c (exp c i) = i) ∧ log c 0 = 0 ∧ log c 1 = 0 ∧ ∀ a : Byte, log c a ≤ 254

/-- R118: `LOG` and `EXP` are inverse bijections between the elements 1..255 and the exponents 0..254, and the identity
fails at 0. -/
def Obligations.LogExpAreInverse : Prop :=
  (∀ a : Byte, a ≠ 0 → gfMulRef (inv a) a = 1) ∧
  (∀ a : Byte, a ≠ 0 → exp Config.unit (log Config.unit a) = a) ∧
  (∀ i, i < 255 → log Config.unit (exp Config.unit i) = i) ∧
  Set.BijOn (exp Config.unit) (Set.Iio 255) { a : Byte | a ≠ 0 } ∧
  Set.BijOn (log Config.unit) { a : Byte | a ≠ 0 } (Set.Iio 255) ∧
  exp Config.unit (log Config.unit 0) = 1

/-- R119: consequences for `INV`, `LOG` and `EXP`. -/
def Obligations.InverseThroughLogarithms : Prop :=
  (∀ a : Byte, a ≠ 0 → inv a = exp Config.unit (255 - log Config.unit a)) ∧
  (∀ a : Byte, a ≠ 0 → log Config.unit (inv a) = (255 - log Config.unit a) % 255) ∧
  log Config.unit Config.unit.gen = 1 ∧ exp Config.unit 1 = Config.unit.gen

/-- R114: 0x02 has order 51 and is no generator, 0x03 is the smallest generator, and there are 128. -/
def Obligations.GeneratorsOfTheField : Prop :=
  mulOrder 0x02 = 51 ∧ isGenerator 0x03 = true ∧
  (∀ g : Byte, isGenerator g = true → 3 ≤ g.toNat) ∧
  ((List.range 256).filter fun g => isGenerator (BitVec.ofNat 8 g)).length = 128

/-- R131: the closed form of `affine`, bit by bit. -/
def Obligations.AffineClosedForm : Prop :=
  ∀ (matrix : Matrix64) (value imm : Byte) (i : Nat), i < 8 →
    (affine matrix value imm).getLsbD i =
      (parity (matrix.extractLsb' (8 * (7 - i)) 8 &&& value) ^^ imm.getLsbD i)

/-- R133: corner cases and laws of `affine`. -/
def Obligations.AffineLaws : Prop :=
  (∀ v : Byte, affine 0x0102040810204080 v 0 = v) ∧
  (∀ v imm : Byte, affine 0 v imm = imm) ∧
  (∀ (m : Matrix64) (imm : Byte), affine m 0 imm = imm) ∧
  (∀ v : Byte, affine 0xFFFFFFFFFFFFFFFF v 0 = if parity v = true then 0xFF else 0x00) ∧
  (∀ (m : Matrix64) (v imm : Byte), affine m v imm = affine m v 0 ^^^ imm) ∧
  (∀ (m : Matrix64) (v w : Byte), affine m (v ^^^ w) 0 = affine m v 0 ^^^ affine m w 0) ∧
  (∀ (m1 m2 : Matrix64) (v : Byte), affine (m1 ^^^ m2) v 0 = affine m1 v 0 ^^^ affine m2 v 0) ∧
  affine 0x0102040810204080 0xA5 0xFF = 0x5A ∧ affine 0x8040201008040201 0xB2 0x00 = 0x4D

/-- R134, R135: `affineInverse` is `affine` of the inverse, and its corner cases. -/
def Obligations.AffineInverseLaws : Prop :=
  (∀ (m : Matrix64) (v imm : Byte), affineInverse m v imm = affine m (inv v) imm) ∧
  (∀ (m : Matrix64) (imm : Byte), affineInverse m 0 imm = imm) ∧
  (∀ (m : Matrix64) (imm : Byte), affineInverse m 1 imm = affine m 1 imm) ∧
  (∀ v : Byte, affineInverse 0x0102040810204080 v 0 = inv v) ∧
  inv 0x53 = 0xCA ∧ inv 0xCA = 0x53 ∧ inv 0x02 = 0x8D ∧ inv 0xFF = 0x1C ∧
  affineInverse 0xF1E3C78F1F3E7CF8 0x53 0x63 = 0xED ∧ affineInverse 0xF1E3C78F1F3E7CF8 0x00 0x63 = 0x63 ∧
  affineInverse 0xF1E3C78F1F3E7CF8 0x01 0x63 = 0x7C

/-- R140: the table path equals the polynomial reference on all 65,536 pairs. -/
def Obligations.MultiplyEqualsReference : Prop :=
  ∀ a b : Byte, gfMultiply Config.unit a b = gfMulRef a b

/-- R141: with the tables of any generator the product is the reference product. -/
def Obligations.MultiplyIsTheSameForEveryGenerator : Prop :=
  ∀ c : Config, isGenerator c.gen = true → ∀ a b : Byte, gfMultiply c a b = gfMulRef a b

/-- R142: commutative, 0 absorbing, 1 neutral. -/
def Obligations.MultiplyAlgebra : Prop :=
  (∀ a b : Byte, gfMultiply Config.unit a b = gfMultiply Config.unit b a) ∧
  (∀ a : Byte, gfMultiply Config.unit a 0 = 0 ∧ gfMultiply Config.unit 0 a = 0) ∧
  (∀ a : Byte, gfMultiply Config.unit a 1 = a ∧ gfMultiply Config.unit 1 a = a)

/-- R143: associative, distributive over XOR, no zero divisors, inverses. -/
def Obligations.MultiplyFieldLaws : Prop :=
  (∀ a b c : Byte, gfMultiply Config.unit (gfMultiply Config.unit a b) c =
    gfMultiply Config.unit a (gfMultiply Config.unit b c)) ∧
  (∀ a b c : Byte, gfMultiply Config.unit a (b ^^^ c) = gfMultiply Config.unit a b ^^^ gfMultiply Config.unit a c) ∧
  (∀ a b : Byte, gfMultiply Config.unit a b = 0 → a = 0 ∨ b = 0) ∧
  (∀ a : Byte, a ≠ 0 → gfMultiply Config.unit a (inv a) = 1) ∧
  inv 0x53 = 0xCA ∧ gfMultiply Config.unit 0x53 0xCA = 0x01

/-- R137: the ranges of the logarithm sum, and when it is exactly 255. -/
def Obligations.LogSumRange : Prop :=
  ∀ a b : Byte, a ≠ 0 → b ≠ 0 →
    log Config.unit a + log Config.unit b ≤ 508 ∧
    (255 < log Config.unit a + log Config.unit b → 1 ≤ log Config.unit a + log Config.unit b - 255 ∧
      log Config.unit a + log Config.unit b - 255 ≤ 253) ∧
    (log Config.unit a + log Config.unit b = 255 ↔ b = inv a ∧ a ≠ 1)

/-- R145: the sample products, by the reference and by the tables. -/
def Obligations.SampleProducts : Prop :=
  ∀ p ∈ [((0x57 : Byte), (0x83 : Byte), (0xC1 : Byte)), (0x57, 0x13, 0xFE), (0x02, 0x80, 0x1B), (0x02, 0x8D, 0x01),
      (0xFF, 0xFF, 0x13), (0x80, 0x80, 0x9A), (0x10, 0x10, 0x1B), (0xFF, 0x02, 0xE5), (0x03, 0xF6, 0x01),
      (0x02, 0x02, 0x04), (0x00, 0xAB, 0x00), (0x01, 0xAB, 0xAB)],
    gfMulRef p.1 p.2.1 = p.2.2 ∧ gfMultiply Config.unit p.1 p.2.1 = p.2.2

/-! ## Lanes -/

/-- R152: byte 8q+j of operand B's lane is bits 8j+7 down to 8j of the matrix of byte k, and so the bits of a lane's
result are the formula's, for either `MATRIX_SPAN`. -/
def Obligations.LaneRowOrder : Prop :=
  (∀ (c : Config) (b : Lane) (k : Fin 16) (j : Fin 8) (q : Nat), q = k.val / c.matrixSpan.bytes →
    some ((laneMatrix c b k).extractLsb' (8 * j.val) 8) = b[8 * q + j.val]?) ∧
  ∀ (c : Config) (a b : Lane) (imm : Byte) (k : Fin 16) (i q : Nat) (hi : i < 8)
    (hq : q = k.val / c.matrixSpan.bytes) (hb : 8 * q + 7 - i < 16),
    ((laneAffine c a b imm)[k].getLsbD i = (parity (b[8 * q + 7 - i] &&& a[k]) ^^ imm.getLsbD i)) ∧
    ((laneAffineInv c a b imm)[k].getLsbD i = (parity (b[8 * q + 7 - i] &&& inv a[k]) ^^ imm.getLsbD i))

/-- R158: byte k of a result lane depends on byte k of `a` and on the matrix bytes of `b` (affine) or byte k of `b`
(multiply), and on nothing else of the two lanes. -/
def Obligations.LaneBytesAreIndependent : Prop :=
  ∀ (c : Config) (op : Op) (imm : Byte) (a a' b b' : Lane) (k : Fin 16),
    a[k] = a'[k] →
    (op ≠ .mul → ∀ j : Fin 8, b[8 * (k.val / c.matrixSpan.bytes) + j.val]? = b'[8 * (k.val / c.matrixSpan.bytes) + j.val]?) →
    (op = .mul → b[k] = b'[k]) →
    (laneOp c op imm a b)[k] = (laneOp c op imm a' b')[k]

/-- R11: with `MATRIX_SPAN` 16 every value byte uses bytes 0..7 of operand B's lane; with 8 value bytes 8..15 use bytes
8..15; the multiply does not depend on it, and some affine result does. -/
def Obligations.MatrixSpanSelectsTheMatrix : Prop :=
  (∀ (c : Config) (b b' : Lane) (k : Fin 16), c.matrixSpan = .s16 → (∀ j : Fin 16, j.val < 8 → b[j] = b'[j]) →
    laneMatrix c b k = laneMatrix c b' k) ∧
  (∀ (c : Config) (b b' : Lane) (k : Fin 16), c.matrixSpan = .s8 → 8 ≤ k.val →
    (∀ j : Fin 16, 8 ≤ j.val → b[j] = b'[j]) → laneMatrix c b k = laneMatrix c b' k) ∧
  (∀ (c c' : Config) (b : Lane) (k : Fin 16), k.val < 8 → laneMatrix c b k = laneMatrix c' b k) ∧
  (∀ (c c' : Config) (a b : Lane), c.gen = c'.gen → laneMul c a b = laneMul c' a b) ∧
  ∃ (c c' : Config) (a b : Lane), c.gen = c'.gen ∧ laneAffine c a b 0 ≠ laneAffine c' a b 0

/-- R14, R64: a register as one 512-bit number, byte j at bits 8j+7 down to 8j, and back. -/
def Obligations.RegisterPackingIsLittleEndian : Prop :=
  (∀ (x : VReg) (j : Fin 64), (packVReg x).extractLsb' (8 * j.val) 8 = x[j]) ∧
  (∀ x : VReg, unpackVReg (packVReg x) = x) ∧ ∀ w : BitVec 512, packVReg (unpackVReg w) = w

/-! ## The instruction forms -/

/-- R191, R192, R193: `GFAFFINE.128`, `.256` and `.512`: encoding, result, zero-extension, and everything else kept. -/
def Obligations.GfaffineUnmaskedForms : Prop :=
  (EncodedBy "GFAFFINE.128" 0x00000000 0x000001FF ∧ EncodedBy "GFAFFINE.256" 0x00000004 0x000001FF ∧
    EncodedBy "GFAFFINE.512" 0x00000008 0x000001FF) ∧
  ∀ (d a b : VId) (imm : Byte) (s : State), s.halted = false →
    Writes (.gfaffine128 d a b imm) s d (lowBytes 16 (affineByte (s.vreg a) (s.vreg b) imm)) ∧
    Writes (.gfaffine256 d a b imm) s d (lowBytes 32 (affineByte (s.vreg a) (s.vreg b) imm)) ∧
    Writes (.gfaffine512 d a b imm) s d (regOf (affineByte (s.vreg a) (s.vreg b) imm))

/-- R194, R195: `GFAFFINE.512.K` and `GFAFFINE.512.KZ`: encoding, masked result, and everything else kept. -/
def Obligations.GfaffineMaskedForms : Prop :=
  (EncodedBy "GFAFFINE.512.K" 0x00000018 0x0000003F ∧ EncodedBy "GFAFFINE.512.KZ" 0x00000038 0x0000003F) ∧
  ∀ (d a b : VId) (k : KId) (imm : Byte) (s : State), s.halted = false →
    Writes (.gfaffine512k d k a b imm) s d
      (underMask (s.kreg k) (affineByte (s.vreg a) (s.vreg b) imm) (fun j => (s.vreg d)[j])) ∧
    Writes (.gfaffine512kz d k a b imm) s d
      (underMask (s.kreg k) (affineByte (s.vreg a) (s.vreg b) imm) (fun _ => 0x00))

/-- R201, R202, R203: `GFAFFINEINV.128`, `.256` and `.512`. -/
def Obligations.GfaffineinvUnmaskedForms : Prop :=
  (EncodedBy "GFAFFINEINV.128" 0x00000001 0x000001FF ∧ EncodedBy "GFAFFINEINV.256" 0x00000005 0x000001FF ∧
    EncodedBy "GFAFFINEINV.512" 0x00000009 0x000001FF) ∧
  ∀ (d a b : VId) (imm : Byte) (s : State), s.halted = false →
    Writes (.gfaffineinv128 d a b imm) s d (lowBytes 16 (affineInvByte (s.vreg a) (s.vreg b) imm)) ∧
    Writes (.gfaffineinv256 d a b imm) s d (lowBytes 32 (affineInvByte (s.vreg a) (s.vreg b) imm)) ∧
    Writes (.gfaffineinv512 d a b imm) s d (regOf (affineInvByte (s.vreg a) (s.vreg b) imm))

/-- R204, R205: `GFAFFINEINV.512.K` and `GFAFFINEINV.512.KZ`. -/
def Obligations.GfaffineinvMaskedForms : Prop :=
  (EncodedBy "GFAFFINEINV.512.K" 0x00000019 0x0000003F ∧ EncodedBy "GFAFFINEINV.512.KZ" 0x00000039 0x0000003F) ∧
  ∀ (d a b : VId) (k : KId) (imm : Byte) (s : State), s.halted = false →
    Writes (.gfaffineinv512k d k a b imm) s d
      (underMask (s.kreg k) (affineInvByte (s.vreg a) (s.vreg b) imm) (fun j => (s.vreg d)[j])) ∧
    Writes (.gfaffineinv512kz d k a b imm) s d
      (underMask (s.kreg k) (affineInvByte (s.vreg a) (s.vreg b) imm) (fun _ => 0x00))

/-- R211, R212, R213: `GFMUL.128`, `.256` and `.512`. -/
def Obligations.GfmulUnmaskedForms : Prop :=
  (EncodedBy "GFMUL.128" 0x00000002 0xFF0001FF ∧ EncodedBy "GFMUL.256" 0x00000006 0xFF0001FF ∧
    EncodedBy "GFMUL.512" 0x0000000A 0xFF0001FF) ∧
  ∀ (d a b : VId) (s : State), s.halted = false →
    Writes (.gfmul128 d a b) s d (lowBytes 16 (mulByte (s.vreg a) (s.vreg b))) ∧
    Writes (.gfmul256 d a b) s d (lowBytes 32 (mulByte (s.vreg a) (s.vreg b))) ∧
    Writes (.gfmul512 d a b) s d (regOf (mulByte (s.vreg a) (s.vreg b)))

/-- R214, R215: `GFMUL.512.K` and `GFMUL.512.KZ`. -/
def Obligations.GfmulMaskedForms : Prop :=
  (EncodedBy "GFMUL.512.K" 0x0000001A 0xFF00003F ∧ EncodedBy "GFMUL.512.KZ" 0x0000003A 0xFF00003F) ∧
  ∀ (d a b : VId) (k : KId) (s : State), s.halted = false →
    Writes (.gfmul512k d k a b) s d
      (underMask (s.kreg k) (mulByte (s.vreg a) (s.vreg b)) (fun j => (s.vreg d)[j])) ∧
    Writes (.gfmul512kz d k a b) s d
      (underMask (s.kreg k) (mulByte (s.vreg a) (s.vreg b)) (fun _ => 0x00))

/-- R216: every computed byte of every `GFMUL` form is the reference product, on this hardware and with the tables of any
generator. -/
def Obligations.GfmulBytesAreReferenceProducts : Prop :=
  (∀ (i : Instr) (s : State), exec i s = runCommand Config.unit i.shape s) ∧
  ∀ (c : Config) (i : Instr) (s t : State) (j : Fin 64), isGenerator c.gen = true → i.shape.op = .mul →
    s.halted = false → runCommand c i.shape s = .next t → j.val < i.shape.wb.width.bytes →
    (i.shape.wb.maskBit = 1 → (s.kreg i.shape.kid).getLsbD j.val = true) →
    (t.vreg i.shape.dst)[j] = gfMulRef (s.vreg i.shape.srcA)[j] (s.vreg i.shape.srcB)[j]

/-- R84, R142, R210: exchanging the sources of a `GFMUL` form changes nothing. -/
def Obligations.GfmulSourcesCommute : Prop :=
  ∀ (d a b : VId) (k : KId) (s : State),
    exec (.gfmul128 d a b) s = exec (.gfmul128 d b a) s ∧ exec (.gfmul256 d a b) s = exec (.gfmul256 d b a) s ∧
    exec (.gfmul512 d a b) s = exec (.gfmul512 d b a) s ∧ exec (.gfmul512k d k a b) s = exec (.gfmul512k d k b a) s ∧
    exec (.gfmul512kz d k a b) s = exec (.gfmul512kz d k b a) s

/-- R206: every `GFAFFINEINV` form is the two-step sequence of the inversion of every active byte, itself `GFAFFINEINV`
with the identity matrix and immediate 0, into a register `x`, and then the `GFAFFINE` form of the same width and masking.
Under merge masking `x` is not the destination, whose old bytes are still to be read. -/
def Obligations.InverseFormIsInversionThenAffine : Prop :=
  ∀ (d a b x e : VId) (imm : Byte) (s : State), s.halted = false → x ≠ b → (∀ l, identityRows (s.vreg e) l) →
    (∃ t u w, exec (.gfaffineinv128 x a e 0) s = .next t ∧ exec (.gfaffine128 d x b imm) t = .next u ∧
      exec (.gfaffineinv128 d a b imm) s = .next w ∧ u.vreg d = w.vreg d) ∧
    (∃ t u w, exec (.gfaffineinv256 x a e 0) s = .next t ∧ exec (.gfaffine256 d x b imm) t = .next u ∧
      exec (.gfaffineinv256 d a b imm) s = .next w ∧ u.vreg d = w.vreg d) ∧
    (∃ t u w, exec (.gfaffineinv512 x a e 0) s = .next t ∧ exec (.gfaffine512 d x b imm) t = .next u ∧
      exec (.gfaffineinv512 d a b imm) s = .next w ∧ u.vreg d = w.vreg d) ∧
    (∀ k : KId, x ≠ d →
      ∃ t u w, exec (.gfaffineinv512 x a e 0) s = .next t ∧ exec (.gfaffine512k d k x b imm) t = .next u ∧
        exec (.gfaffineinv512k d k a b imm) s = .next w ∧ u.vreg d = w.vreg d) ∧
    ∀ k : KId,
      ∃ t u w, exec (.gfaffineinv512 x a e 0) s = .next t ∧ exec (.gfaffine512kz d k x b imm) t = .next u ∧
        exec (.gfaffineinv512kz d k a b imm) s = .next w ∧ u.vreg d = w.vreg d

/-! ## Width and masking, over all forms -/

/-- R169: above the active width the destination is zero, for every operation, width and operand shape. -/
def Obligations.BytesAboveTheWidthAreZero : Prop :=
  ∀ (i : Instr) (s t : State) (j : Fin 64), s.halted = false → exec i s = .next t →
    i.shape.wb.width.bytes ≤ j.val → (t.vreg i.shape.dst)[j] = 0x00

/-- R174: a clear mask bit leaves the byte unchanged (merge) or forces it to 0 (zero). -/
def Obligations.MaskedOffBytes : Prop :=
  ∀ (i : Instr) (s t : State) (j : Fin 64), s.halted = false → exec i s = .next t →
    (s.kreg i.shape.kid).getLsbD j.val = false →
    (i.shape.wb = .merge → (t.vreg i.shape.dst)[j] = (s.vreg i.shape.dst)[j]) ∧
    (i.shape.wb = .zero → (t.vreg i.shape.dst)[j] = 0x00)

/-- R170, R171: an all-ones mask gives the unmasked 512-bit result; an all-zeros mask keeps the destination (merge) or
clears it (zero). -/
def Obligations.MaskExtremes : Prop :=
  ∀ (i f : Instr) (s t u : State), s.halted = false → i.shape.wb = .merge ∨ i.shape.wb = .zero →
    f.shape.wb = .full .w512 → f.shape.op = i.shape.op → f.shape.dst = i.shape.dst → f.shape.srcA = i.shape.srcA →
    f.shape.srcB = i.shape.srcB → f.shape.imm = i.shape.imm → exec i s = .next t → exec f s = .next u →
    (s.kreg i.shape.kid = BitVec.allOnes 64 → t = u) ∧
    (s.kreg i.shape.kid = 0 → (i.shape.wb = .merge → t.vreg i.shape.dst = s.vreg i.shape.dst) ∧
      (i.shape.wb = .zero → t.vreg i.shape.dst = Vector.replicate 64 0x00))

/-- R167: lane l of a wide result is lane 0 of the 128-bit operation on registers whose lane 0 holds lane l of the
operands. -/
def Obligations.WidthIndependence : Prop :=
  ∀ (i n : Instr) (w : Width) (l : Fin 4) (s s' t t' : State),
    i.shape.wb = .full w → n.shape.wb = .full .w128 → n.shape.op = i.shape.op → n.shape.imm = i.shape.imm →
    l.val < w.lanes → s.halted = false → s'.halted = false →
    (∀ k : Fin 16, (s.vreg i.shape.srcA)[16 * l.val + k.val]? = (s'.vreg n.shape.srcA)[k.val]?) →
    (∀ k : Fin 16, (s.vreg i.shape.srcB)[16 * l.val + k.val]? = (s'.vreg n.shape.srcB)[k.val]?) →
    exec i s = .next t → exec n s' = .next t' →
    ∀ k : Fin 16, (t.vreg i.shape.dst)[16 * l.val + k.val]? = (t'.vreg n.shape.dst)[k.val]?

/-- R34: only the low n bytes of the operands, the old destination under merge masking, and the mask of a masked form
have any influence on the new destination. -/
def Obligations.OnlyTheReadBytesMatter : Prop :=
  ∀ (i : Instr) (s s' t t' : State), s.halted = false → s'.halted = false →
    (∀ j : Fin 64, j.val < i.shape.wb.width.bytes → (s.vreg i.shape.srcA)[j] = (s'.vreg i.shape.srcA)[j]) →
    (∀ j : Fin 64, j.val < i.shape.wb.width.bytes → (s.vreg i.shape.srcB)[j] = (s'.vreg i.shape.srcB)[j]) →
    (i.shape.wb.maskBit = 1 → s.kreg i.shape.kid = s'.kreg i.shape.kid) →
    (i.shape.wb = .merge → s.vreg i.shape.dst = s'.vreg i.shape.dst) →
    exec i s = .next t → exec i s' = .next t' → t.vreg i.shape.dst = t'.vreg i.shape.dst

/-- R70: repeating a command whose destination is none of its sources gives the same result again. -/
def Obligations.RepeatingACommand : Prop :=
  ∀ (i : Instr) (s t u : State), i.shape.dst ≠ i.shape.srcA → i.shape.dst ≠ i.shape.srcB →
    exec i s = .next t → exec i t = .next u → u.v = t.v

/-- R177: what a valid command never changes. -/
def Obligations.FrameOfEveryForm : Prop :=
  ∀ (i : Instr) (s t : State), exec i s = .next t →
    t.k = s.k ∧ t.status = s.status ∧ t.input = s.input ∧ t.resets = s.resets ∧
    ∀ r : VId, r ≠ i.shape.dst → t.vreg r = s.vreg r

/-- R22: a step for a valid command is total: from every running state every form ends in a next state, the command
executed and counted. -/
def Obligations.EveryFormTerminates : Prop :=
  ∀ (i : Instr) (s : State), s.halted = false → ∃ t, exec i s = .next t ∧ t.cix = s.cix + 1

/-! ## The step -/

/-- R176: when the presented word decodes to an instruction, the step is that instruction on the state without the
move. -/
def Obligations.StepRunsTheDecodedInstruction : Prop :=
  ∀ (s : State) (cw : CommandWord) (i : Instr) (rest : List Move),
    s.input = .command cw :: rest → decode cw = .valid i → step s = exec i { s with input := rest }

/-- R225: a violating word sets `HALTED` and `CAUSE` and changes nothing else, and no move but a reset leaves the halt.
(What crosses the ports then is in `PortTraffic`.) -/
def Obligations.ViolationHaltsTheUnit : Prop :=
  ∀ (s : State) (cw : CommandWord) (c : Violation) (rest : List Move), s.halted = false →
    s.input = .command cw :: rest → decode cw = .violation c →
    ∃ t, step s = .next t ∧ t.halted = true ∧ t.cause = c.code ∧ t.v = s.v ∧ t.k = s.k ∧ t.cix = s.cix ∧
      t.resets = s.resets ∧ t.input = rest ∧
      ∀ (mv : Move) (l : List Move) (u : State), mv ≠ .reset → step { t with input := mv :: l } = .next u →
        u.halted = true ∧ u.cause = c.code

/-- R228 with D22: a word presented to a halted unit has no effect. That the step, and the execution of any form, then is
the identity on the unit's state, and not disabled, is the model's choice (assumption log 5). -/
def Obligations.HaltedUnitTakesNoCommand : Prop :=
  (∀ (s : State) (cw : CommandWord) (rest : List Move), s.halted = true → s.input = .command cw :: rest →
    step s = .next { s with input := rest }) ∧
  ∀ (i : Instr) (s : State), s.halted = true → exec i s = .next s

/-- R49: the environment's register moves; and, by R44, R265 and D18, the observation of the `status` port, which
returns `STATUS` and changes nothing. -/
def Obligations.EnvironmentMoves : Prop :=
  (∀ (s : State) (r : VId) (x : VReg) (rest : List Move), s.input = .writeV r x :: rest →
    ∃ t, step s = .next t ∧ t.vreg r = x ∧ (∀ q : VId, q ≠ r → t.vreg q = s.vreg q) ∧ t.k = s.k ∧
      t.status = s.status ∧ t.cix = s.cix ∧ t.resets = s.resets ∧ t.input = rest) ∧
  (∀ (s : State) (k : KId) (m : KReg) (rest : List Move), s.input = .writeK k m :: rest →
    ∃ t, step s = .next t ∧ t.kreg k = m ∧ (∀ q : KId, q ≠ k → t.kreg q = s.kreg q) ∧ t.v = s.v ∧
      t.status = s.status ∧ t.cix = s.cix ∧ t.resets = s.resets ∧ t.input = rest) ∧
  (∀ (s : State) (r : VId) (rest : List Move), s.input = .readV r :: rest →
    step s = .next { s with input := rest } ∧ reply (.readV r) s = some (.vreg (s.vreg r))) ∧
  (∀ (s : State) (k : KId) (rest : List Move), s.input = .readK k :: rest →
    step s = .next { s with input := rest } ∧ reply (.readK k) s = some (.kreg (s.kreg k))) ∧
  ∀ (s : State) (rest : List Move), s.input = .observeStatus :: rest →
    step s = .next { s with input := rest } ∧ reply .observeStatus s = some (.status s.status)

/-- R253: a reset, in any state, clears `STATUS` and `cix`; what it leaves in `V` and `K` is unspecified, and the
statement says nothing of it. -/
def Obligations.ResetClearsStatusAndIndex : Prop :=
  ∀ (s : State) (rest : List Move), s.input = .reset :: rest →
    ∃ (v : Vector VReg 32) (k : Vector KReg 8) (n : Nat),
      step s = .next { v := v, k := k, status := 0, cix := 0, input := rest, resets := n }

/-- R252: at launch `STATUS` and `cix` are 0 whatever the register files hold, and the model's reset state is a launch
state; that its registers are zero is the model's choice (assumption log 4) and is not stated. -/
def Obligations.LaunchState : Prop :=
  (∀ (v : Vector VReg 32) (k : Vector KReg 8), (State.launch v k).halted = false ∧ (State.launch v k).cause = 0 ∧
    (State.launch v k).cix = 0 ∧ (State.launch v k).v = v ∧ (State.launch v k).k = k) ∧
  ∃ (v : Vector VReg 32) (k : Vector KReg 8), State.reset = State.launch v k

/-- R254: reset is the only event that writes `STATUS` to 0; nothing else clears `HALTED`. -/
def Obligations.OnlyResetClearsTheHalt : Prop :=
  ∀ s t : State, step s = .next t →
    (s.status ≠ 0 → t.status = 0 → s.input.head? = some .reset) ∧
    (s.halted = true → s.input.head? ≠ some .reset → t.halted = true ∧ t.status = s.status)

/-- R41: the command index: 0 at launch and after a reset, one more after an executed command, and unchanged by every
other move: a violating word, a word presented while halted (which is not executed, R228), and the environment's register
moves and status observations. No command's other effect depends on it. -/
def Obligations.CommandIndexCounts : Prop :=
  (∀ (v : Vector VReg 32) (k : Vector KReg 8), (State.launch v k).cix = 0) ∧
  (∀ s t : State, step s = .next t →
    (∀ cw rest i, s.input = .command cw :: rest → decode cw = .valid i → s.halted = false → t.cix = s.cix + 1) ∧
    (∀ cw rest c, s.input = .command cw :: rest → decode cw = .violation c → t.cix = s.cix) ∧
    (∀ cw rest, s.input = .command cw :: rest → s.halted = true → t.cix = s.cix) ∧
    (∀ mv rest, s.input = mv :: rest → mv.isCommand = false → mv ≠ .reset → t.cix = s.cix) ∧
    (∀ rest, s.input = .reset :: rest → t.cix = 0)) ∧
  (∀ (i : Instr) (s t : State) (n : Nat), s.halted = false → exec i s = .next t →
    exec i { s with cix := n } = .next { t with cix := n + 1 })

/-- R240: what a step can change, by the move it takes. The third kind, a command presented while halted, is none of
R240's: that the model's step then is the identity is its own choice (assumption log 5, allowed by R228 and D22). -/
def Obligations.KindsOfTransition : Prop :=
  ∀ s t : State, step s = .next t → ∃ (mv : Move) (rest : List Move), s.input = mv :: rest ∧ t.input = rest ∧
    ((∃ cw i, mv = .command cw ∧ decode cw = .valid i ∧ s.halted = false ∧ t.k = s.k ∧ t.status = s.status ∧
        t.cix = s.cix + 1 ∧ t.resets = s.resets ∧ ∀ r : VId, r ≠ i.shape.dst → t.vreg r = s.vreg r) ∨
     (∃ cw c, mv = .command cw ∧ decode cw = .violation c ∧ s.halted = false ∧ t.halted = true ∧
        t.cause = c.code ∧ t.v = s.v ∧ t.k = s.k ∧ t.cix = s.cix ∧ t.resets = s.resets) ∨
     (∃ cw, mv = .command cw ∧ s.halted = true ∧ t = { s with input := rest }) ∨
     (mv = .reset ∧ t.status = 0 ∧ t.cix = 0) ∨
     (mv.isCommand = false ∧ mv ≠ .reset ∧ t.status = s.status ∧ t.cix = s.cix ∧ t.resets = s.resets))

/-- R44, R226: the step keeps `STATUS` legal: `CAUSE` is 0 while running and 1 to 4 while halted. -/
def Obligations.StatusStaysLegal : Prop :=
  ∀ s t : State, StatusLegal s → step s = .next t → StatusLegal t

/-- R44: `STATUS` is legal at every launch state and in the model's reset state. -/
def Obligations.StatusLegalAtLaunch : Prop :=
  (∀ (v : Vector VReg 32) (k : Vector KReg 8), StatusLegal (State.launch v k)) ∧ StatusLegal State.reset

/-- R224, R261: an environment that presents no violating word never sees the halt: the unit takes all its moves, ends
running, and without a reset among them has counted every command. -/
def Obligations.ContractKeptMeansNoHalt : Prop :=
  ∀ s : State, s.halted = false → s.contractKept = true →
    ∃ t, Sys2Proof.core.run s.input.length s = .next t ∧ t.halted = false ∧ t.input = [] ∧
      (Move.reset ∉ s.input → t.cix = s.cix + (s.input.filter Move.isCommand).length)

/-! ## Ports and configuration -/

/-- R34, R51, R52: the transfers of a command, each exactly once: one write, whose data is what the register file then
holds; the low bytes of operands A and B; the old destination only under merge masking and the mask only by a masked form.
R225 and R227 say that a violating word reads no mask, writes nothing and need exercise no read port; that the model then
moves nothing at all is its own choice (assumption log 12). -/
def Obligations.PortTraffic : Prop :=
  ∀ (s : State) (cw : CommandWord) (rest : List Move), s.halted = false → s.input = .command cw :: rest →
    (∀ c, decode cw = .violation c → transfers cw s = []) ∧
    (∀ i, decode cw = .valid i → ∃ t, step s = .next t ∧
      (transfers cw s).Nodup ∧
      ((transfers cw s).filter Transfer.isWrite = [.wr i.shape.dst (t.vreg i.shape.dst)]) ∧
      (∀ r x, Transfer.rdD r x ∈ transfers cw s ↔
        i.shape.wb = .merge ∧ r = i.shape.dst ∧ x = s.vreg i.shape.dst) ∧
      (∀ k m, Transfer.rdK k m ∈ transfers cw s ↔
        i.shape.wb.maskBit = 1 ∧ k = i.shape.kid ∧ m = s.kreg i.shape.kid) ∧
      (∀ r w l, Transfer.rdA r w l ∈ transfers cw s ↔
        r = i.shape.srcA ∧ w = i.shape.wb.width ∧ l = (s.vreg i.shape.srcA).toList.take w.bytes) ∧
      (∀ r w l, Transfer.rdB r w l ∈ transfers cw s ↔
        r = i.shape.srcB ∧ w = i.shape.wb.width ∧ l = (s.vreg i.shape.srcB).toList.take w.bytes))

/-- R62: an instance with fewer registers refuses exactly the identifiers out of range, in a command and in an environment
move; this hardware refuses none. Which refusal, and when it is raised, is the model's choice (assumption log 10). -/
def Obligations.IdentifiersOutOfRange : Prop :=
  (∀ (c : Config) (i : Instr) (s : State), s.halted = false →
    (runCommand c i.shape s = .refused .identifierOutOfRange ↔
      c.nreg ≤ i.shape.dst.toNat ∨ c.nreg ≤ i.shape.srcA.toNat ∨ c.nreg ≤ i.shape.srcB.toNat ∨
        (i.shape.wb.maskBit = 1 ∧ c.nkreg ≤ i.shape.kid.toNat))) ∧
  (∀ (c : Config) (s : State) (mv : Move) (rest : List Move), acceptable c = true → s.input = mv :: rest →
    mv.isCommand = false →
    (stepIn c s = .refused .identifierOutOfRange ↔
      (∃ r x, mv = .writeV r x ∧ c.nreg ≤ r.toNat) ∨ (∃ r, mv = .readV r ∧ c.nreg ≤ r.toNat) ∨
      (∃ k m, mv = .writeK k m ∧ c.nkreg ≤ k.toNat) ∨ ∃ k, mv = .readK k ∧ c.nkreg ≤ k.toNat)) ∧
  (∀ (i : Instr) (s : State) (r : Refusal), exec i s ≠ .refused r) ∧
  ∀ (s : State) (r : Refusal), s.input ≠ [] → step s ≠ .refused r

/-- R48, R141: no step's effect depends on `GEN`. For a reset move the equality rests on the model's choice that both
instances get the same free values (assumption log 3). -/
def Obligations.NoEffectDependsOnTheGenerator : Prop :=
  ∀ (c c' : Config) (s : State), isGenerator c.gen = true → isGenerator c'.gen = true →
    c'.matrixSpan = c.matrixSpan → c'.nreg = c.nreg → c'.nkreg = c.nkreg → stepIn c s = stepIn c' s

/-- R10, R123 and the parameter table of `92_eei_decisions.md`: the step of this hardware is the step of the instance with
the values R10 states; an instance is accepted exactly when its parameters are in their ranges and its generator is one;
for 0x03 the tables built by the rules are the printed ones. That a refused instance's step refuses is the model's choice
(assumption log 9). -/
def Obligations.ConfigurationsAccepted : Prop :=
  (∀ s : State, step s = stepIn { nreg := 32, nkreg := 8, gen := 0x03, matrixSpan := .s16 } s) ∧
  (∀ (nreg nkreg : Nat) (gen : Byte) (span : Nat) (c : Config), configOf nreg nkreg gen span = some c ↔
    1 ≤ nreg ∧ nreg ≤ 32 ∧ 1 ≤ nkreg ∧ nkreg ≤ 8 ∧ isGenerator gen = true ∧
      ((span = 16 ∧ c = { nreg := nreg, nkreg := nkreg, gen := gen, matrixSpan := .s16 }) ∨
       (span = 8 ∧ c = { nreg := nreg, nkreg := nkreg, gen := gen, matrixSpan := .s8 }))) ∧
  (∀ (c : Config) (s : State), stepIn c s = .refused .configuration ↔
    ¬(1 ≤ c.nreg ∧ c.nreg ≤ 32 ∧ 1 ≤ c.nkreg ∧ c.nkreg ≤ 8 ∧ isGenerator c.gen = true)) ∧
  configOf 32 8 0x03 16 = some Config.unit ∧ configOf 32 8 0x02 16 = none ∧
  buildExp 0x03 = expTable3 ∧ buildLog 0x03 = logTable3
end

