-- ==== Sys2Proof/Laws/Adapter.lean ====
section
/-! SUPPORT. Byte lemmas of the lane processor and the adapter: what each byte of a result is, said once. -/

namespace Sys2Proof.Machine

@[simp] theorem readLow_getElem (nl : Nat) (h : nl ≤ 4) (x : VReg) (j : Nat) (hj : j < 16 * nl) :
    (readLow nl h x)[j] = x[j] := by simp [readLow]

@[simp] theorem laneOf_getElem {nl : Nat} (x : Vector Byte (16 * nl)) (l : Fin nl) (k : Nat) (hk : k < 16) :
    (laneOf x l)[k] = x[16 * l.val + k]'(by omega) := by simp [laneOf]

@[simp] theorem laneAffine_getElem (c : Config) (a b : Lane) (imm : Byte) (k : Nat) (hk : k < 16) :
    (laneAffine c a b imm)[k] = affine (laneMatrix c b ⟨k, hk⟩) a[k] imm := by simp [laneAffine]

@[simp] theorem laneAffineInv_getElem (c : Config) (a b : Lane) (imm : Byte) (k : Nat) (hk : k < 16) :
    (laneAffineInv c a b imm)[k] = affineInverse (laneMatrix c b ⟨k, hk⟩) a[k] imm := by simp [laneAffineInv]

@[simp] theorem laneMul_getElem (c : Config) (a b : Lane) (k : Nat) (hk : k < 16) :
    (laneMul c a b)[k] = gfMultiply c a[k] b[k] := by simp [laneMul]

/-- Byte j of a driven result is byte j mod 16 of the lane function at lane j div 16. -/
theorem driveLanes_getElem {nl : Nat} (f : Lane → Lane → Lane) (a b : Vector Byte (16 * nl)) (j : Nat)
    (hj : j < 16 * nl) :
    (driveLanes f a b)[j] =
      (f (laneOf a ⟨j / 16, by omega⟩) (laneOf b ⟨j / 16, by omega⟩))[j % 16]'(by omega) := by
  simp [driveLanes]

theorem computed_getElem (c : Config) (op : Op) (imm : Byte) {nl : Nat} (a b : Vector Byte (16 * nl)) (j : Nat)
    (hj : j < 16 * nl) :
    (computed c op imm a b)[j] =
      (laneOp c op imm (laneOf a ⟨j / 16, by omega⟩) (laneOf b ⟨j / 16, by omega⟩))[j % 16]'(by omega) :=
  driveLanes_getElem _ a b j hj

@[simp] theorem zext512_getElem {n : Nat} (res : Vector Byte n) (j : Nat) (hj : j < 64) :
    (zext512 res)[j] = if h : j < n then res[j] else 0 := by simp [zext512]

@[simp] theorem mergeMasked_getElem (m : KReg) (res old : VReg) (j : Nat) (hj : j < 64) :
    (mergeMasked m res old)[j] = if m.getLsbD j then res[j] else old[j] := by
  simp only [mergeMasked, Vector.getElem_ofFn, Fin.getElem_fin]

@[simp] theorem zeroMasked_getElem (m : KReg) (res : VReg) (j : Nat) (hj : j < 64) :
    (zeroMasked m res)[j] = if m.getLsbD j then res[j] else 0 := by
  simp only [zeroMasked, Vector.getElem_ofFn, Fin.getElem_fin]

end Sys2Proof.Machine
end

