-- ==== Sys2Proof/Laws/Decode.lean ====
section
/-! SUPPORT. Small lemmas of the decoder: what a decoded word says of its fields. -/

namespace Sys2Proof

/-- A word decodes to an instruction exactly when its fields pass the checks, and then to their form. -/
theorem decode_valid_iff (cw : CommandWord) (i : Instr) :
    decode cw = .valid i ↔ (Fields.ofWord cw).check = none ∧ (Fields.ofWord cw).form = i := by
  unfold decode Fields.decode
  cases h : (Fields.ofWord cw).check <;> simp

/-- A word is a violation with the cause of the first failing check. -/
theorem decode_violation_iff (cw : CommandWord) (c : Violation) :
    decode cw = .violation c ↔ (Fields.ofWord cw).check = some c := by
  unfold decode Fields.decode
  cases h : (Fields.ofWord cw).check <;> simp

/-- Every word is an instruction or a violation. -/
theorem decode_total (cw : CommandWord) : (∃ i, decode cw = .valid i) ∨ ∃ c, decode cw = .violation c := by
  cases h : decode cw
  · exact .inl ⟨_, rfl⟩
  · exact .inr ⟨_, rfl⟩

end Sys2Proof
end

