-- ==== Sys2Proof/Laws/State.lean ====
section
/-! SUPPORT. One lemma per field per update of the state, and what reading a register after a write gives. -/

namespace Sys2Proof.Machine

variable (s : State) (r : VId) (x : VReg) (q : KId) (m : KReg)

@[simp] theorem setV_v : (s.setV r x).v = s.v.set r.toNat x r.isLt := rfl
@[simp] theorem setV_k : (s.setV r x).k = s.k := rfl
@[simp] theorem setV_status : (s.setV r x).status = s.status := rfl
@[simp] theorem setV_cix : (s.setV r x).cix = s.cix := rfl
@[simp] theorem setV_input : (s.setV r x).input = s.input := rfl
@[simp] theorem setV_resets : (s.setV r x).resets = s.resets := rfl
@[simp] theorem setV_halted : (s.setV r x).halted = s.halted := rfl
@[simp] theorem setV_cause : (s.setV r x).cause = s.cause := rfl
@[simp] theorem setV_kreg : (s.setV r x).kreg q = s.kreg q := rfl

@[simp] theorem setK_v : (s.setK q m).v = s.v := rfl
@[simp] theorem setK_k : (s.setK q m).k = s.k.set q.toNat m q.isLt := rfl
@[simp] theorem setK_status : (s.setK q m).status = s.status := rfl
@[simp] theorem setK_cix : (s.setK q m).cix = s.cix := rfl
@[simp] theorem setK_input : (s.setK q m).input = s.input := rfl
@[simp] theorem setK_resets : (s.setK q m).resets = s.resets := rfl
@[simp] theorem setK_halted : (s.setK q m).halted = s.halted := rfl
@[simp] theorem setK_cause : (s.setK q m).cause = s.cause := rfl
@[simp] theorem setK_vreg : (s.setK q m).vreg r = s.vreg r := rfl

@[simp] theorem commit_v : (s.commit r x).v = s.v.set r.toNat x r.isLt := rfl
@[simp] theorem commit_k : (s.commit r x).k = s.k := rfl
@[simp] theorem commit_status : (s.commit r x).status = s.status := rfl
@[simp] theorem commit_cix : (s.commit r x).cix = s.cix + 1 := rfl
@[simp] theorem commit_input : (s.commit r x).input = s.input := rfl
@[simp] theorem commit_resets : (s.commit r x).resets = s.resets := rfl
@[simp] theorem commit_halted : (s.commit r x).halted = s.halted := rfl
@[simp] theorem commit_cause : (s.commit r x).cause = s.cause := rfl
@[simp] theorem commit_kreg : (s.commit r x).kreg q = s.kreg q := rfl

@[simp] theorem withInput_halted (l : List Move) : ({ s with input := l } : State).halted = s.halted := rfl
@[simp] theorem withInput_cause (l : List Move) : ({ s with input := l } : State).cause = s.cause := rfl
@[simp] theorem withInput_vreg (l : List Move) : ({ s with input := l } : State).vreg r = s.vreg r := rfl
@[simp] theorem withInput_kreg (l : List Move) : ({ s with input := l } : State).kreg q = s.kreg q := rfl

@[simp] theorem resetUnit_status : (resetUnit s).status = 0 := by unfold resetUnit; rfl
@[simp] theorem resetUnit_cix : (resetUnit s).cix = 0 := by unfold resetUnit; rfl
@[simp] theorem resetUnit_input : (resetUnit s).input = s.input := by unfold resetUnit; rfl
@[simp] theorem resetUnit_resets : (resetUnit s).resets = s.resets + 1 := by unfold resetUnit; rfl
@[simp] theorem resetUnit_halted : (resetUnit s).halted = false := by simp [State.halted]

@[simp] theorem launch_v (v : Vector VReg 32) (k : Vector KReg 8) : (State.launch v k).v = v := rfl
@[simp] theorem launch_k (v : Vector VReg 32) (k : Vector KReg 8) : (State.launch v k).k = k := rfl
@[simp] theorem launch_status (v : Vector VReg 32) (k : Vector KReg 8) : (State.launch v k).status = 0 := rfl
@[simp] theorem launch_cix (v : Vector VReg 32) (k : Vector KReg 8) : (State.launch v k).cix = 0 := rfl
@[simp] theorem launch_input (v : Vector VReg 32) (k : Vector KReg 8) : (State.launch v k).input = [] := rfl
@[simp] theorem launch_halted (v : Vector VReg 32) (k : Vector KReg 8) : (State.launch v k).halted = false := by
  simp [State.halted]

theorem setV_vreg_self : (s.setV r x).vreg r = x := by simp [State.vreg]

theorem setV_vreg_ne (r' : VId) (h : r' ≠ r) : (s.setV r x).vreg r' = s.vreg r' := by
  have hn : r.toNat ≠ r'.toNat := fun e => h (BitVec.eq_of_toNat_eq e.symm)
  simp [State.vreg, Vector.getElem_set_ne, hn]

@[simp] theorem setV_vreg (r' : VId) : (s.setV r x).vreg r' = if r' = r then x else s.vreg r' := by
  split
  · subst_vars; exact setV_vreg_self s r' x
  · exact setV_vreg_ne s r x r' ‹_›

@[simp] theorem commit_vreg (r' : VId) : (s.commit r x).vreg r' = if r' = r then x else s.vreg r' :=
  setV_vreg s r x r'

@[simp] theorem setK_kreg (q' : KId) : (s.setK q m).kreg q' = if q' = q then m else s.kreg q' := by
  split
  · subst_vars; simp [State.kreg]
  · have hn : q.toNat ≠ q'.toNat := fun e => ‹¬q' = q› (BitVec.eq_of_toNat_eq e.symm)
    simp [State.kreg, Vector.getElem_set_ne, hn]

end Sys2Proof.Machine
end

