-- ==== Sys2Proof/Laws/Ops.lean ====
section
/-! SUPPORT. One lemma per shared operation of the machine, saying everything it can do; the later proofs cite these. -/

namespace Sys2Proof.Machine

/-- At this hardware's values every identifier is in range (R62). -/
@[simp] theorem inRange_unit (sh : Shape) : sh.inRange Config.unit = true := by
  have hd := sh.dst.isLt
  have ha := sh.srcA.isLt
  have hb := sh.srcB.isLt
  have hk := sh.kid.isLt
  have h : Config.unit.nreg = 32 ∧ Config.unit.nkreg = 8 := ⟨rfl, rfl⟩
  cases hw : sh.wb <;>
    simp [Shape.inRange, Shape.dstInRange, Shape.srcAInRange, Shape.srcBInRange, Shape.kidInRange, hw, h] <;>
    omega

/-- The value a valid command writes. -/
def newValue (sh : Shape) (s : State) : VReg :=
  execResult Config.unit sh.op sh.wb sh.imm (s.vreg sh.srcA) (s.vreg sh.srcB) (s.vreg sh.dst) (s.kreg sh.kid)

theorem runCommand_halted (c : Config) (sh : Shape) (s : State) (h : s.halted = true) :
    runCommand c sh s = .next s := by simp [runCommand, h]

theorem runCommand_unit (sh : Shape) (s : State) :
    runCommand Config.unit sh s = .next (if s.halted then s else s.commit sh.dst (newValue sh s)) := by
  unfold runCommand newValue
  cases s.halted <;> simp

/-- Every form's meaning is the shared command operation on its descriptor. -/
theorem exec_eq_runCommand (i : Instr) (s : State) : exec i s = runCommand Config.unit i.shape s := by
  cases i <;> rfl

/-- All that an instruction does: the halted unit takes nothing; a running one writes its destination. -/
theorem exec_eq (i : Instr) (s : State) :
    exec i s = .next (if s.halted then s else s.commit i.shape.dst (newValue i.shape s)) := by
  rw [exec_eq_runCommand, runCommand_unit]

theorem haltUnit_halted (c : Violation) (s : State) (h : s.halted = true) : haltUnit c s = s := by
  simp [haltUnit, h]

theorem haltUnit_running (c : Violation) (s : State) (h : s.halted = false) :
    haltUnit c s = { s with status := haltedStatus c } := by simp [haltUnit, h]

@[simp] theorem haltedStatus_halted (c : Violation) (s : State) :
    ({ s with status := haltedStatus c } : State).halted = true := by
  cases c <;> simp [State.halted, haltedStatus, Violation.code]

@[simp] theorem haltedStatus_cause (c : Violation) (s : State) :
    ({ s with status := haltedStatus c } : State).cause = c.code := by
  cases c <;> simp [State.cause, haltedStatus, Violation.code]

/-- A step takes the next move and runs it on the state without it. -/
theorem step_cons (s : State) (mv : Move) (rest : List Move) (h : s.input = mv :: rest) :
    step s = runMove mv { s with input := rest } := by simp [step, h]

theorem step_nil (s : State) (h : s.input = []) : step s = .refused .noMove := by simp [step, h]

/-- Everything a move can do: it always has a next state. -/
theorem runMove_cases (mv : Move) (s : State) :
    (∃ cw i, mv = .command cw ∧ decode cw = .valid i ∧
      runMove mv s = .next (if s.halted then s else s.commit i.shape.dst (newValue i.shape s))) ∨
    (∃ cw c, mv = .command cw ∧ decode cw = .violation c ∧ runMove mv s = .next (haltUnit c s)) ∨
    (mv = .reset ∧ runMove mv s = .next (resetUnit s)) ∨
    (∃ r x, mv = .writeV r x ∧ runMove mv s = .next (s.setV r x)) ∨
    (∃ k m, mv = .writeK k m ∧ runMove mv s = .next (s.setK k m)) ∨
    (((∃ r, mv = .readV r) ∨ (∃ k, mv = .readK k) ∨ mv = .observeStatus) ∧ runMove mv s = .next s) := by
  cases mv with
  | command cw =>
    cases h : decode cw with
    | valid i => exact .inl ⟨cw, i, rfl, h, by simp [runMove, presentCommand, h, exec_eq]⟩
    | violation c => exact .inr (.inl ⟨cw, c, rfl, h, by simp [runMove, presentCommand, h]⟩)
  | reset => exact .inr (.inr (.inl ⟨rfl, rfl⟩))
  | writeV r x => exact .inr (.inr (.inr (.inl ⟨r, x, rfl, rfl⟩)))
  | writeK k m => exact .inr (.inr (.inr (.inr (.inl ⟨k, m, rfl, rfl⟩))))
  | readV r => exact .inr (.inr (.inr (.inr (.inr ⟨.inl ⟨r, rfl⟩, rfl⟩))))
  | readK k => exact .inr (.inr (.inr (.inr (.inr ⟨.inr (.inl ⟨k, rfl⟩), rfl⟩))))
  | observeStatus => exact .inr (.inr (.inr (.inr (.inr ⟨.inr (.inr rfl), rfl⟩))))

end Sys2Proof.Machine
end

