-- ==== Sys2Proof/Laws/Instance.lean ====
section
/-! SUPPORT. What the step of an instance does, said once: which moves it refuses, and that the others do not depend on
the parameters. -/

namespace Sys2Proof.Machine

/-- At this hardware's values every move names registers that exist (R62). -/
@[simp] theorem Move.inRange_unit (mv : Move) : mv.inRange Config.unit = true := by
  have h : Config.unit.nreg = 32 ∧ Config.unit.nkreg = 8 := ⟨rfl, rfl⟩
  cases mv <;> simp [Move.inRange, h] <;> omega

theorem stepIn_cons (c : Config) (s : State) (mv : Move) (rest : List Move) (hc : acceptable c = true)
    (h : s.input = mv :: rest) : stepIn c s = runMoveIn c mv { s with input := rest } := by
  simp [stepIn, hc, h]

theorem stepIn_unacceptable (c : Config) (s : State) (hc : acceptable c = false) :
    stepIn c s = .refused .configuration := by simp [stepIn, hc]

theorem runMoveIn_refused (c : Config) (mv : Move) (s : State) (h : mv.inRange c = false) :
    runMoveIn c mv s = .refused .identifierOutOfRange := by simp [runMoveIn, h]

@[simp] theorem runMoveIn_command (c : Config) (cw : CommandWord) (s : State) :
    runMoveIn c (.command cw) s = presentCommandIn c cw s := by simp [runMoveIn, Move.inRange]

/-- An environment move or a reset in range is the same on every instance. -/
theorem runMoveIn_environment (c : Config) (mv : Move) (s : State) (hr : mv.inRange c = true)
    (hm : ∀ cw, mv ≠ .command cw) : runMoveIn c mv s = runMove mv s := by
  cases mv <;> simp_all [runMoveIn]

end Sys2Proof.Machine
end

