-- ==== Sys2Proof/Laws/PerInstr.lean ====
section
/-! SUPPORT. The per-instruction family `EncodeLegal`: the fields an instruction is encoded with pass every check of the
decoder, so the encoder emits no reserved code point (`30_encoding.md` R89, R92). -/

namespace Sys2Proof.Laws.EncodeLegal

open Sys2Proof

/-- The encoded fields break no check of R89. -/
def Statement (i : Instr) : Prop := i.shape.fields.check = none

theorem full_legal (op : Op) (w : Width) (d a b : VId) (imm : Byte) (h : op = .mul → imm = 0) :
    (Shape.fields ⟨op, .full w, 0, d, a, b, imm⟩).check = none := by
  cases op <;> cases w <;>
    simp_all [Shape.fields, Fields.check, Op.code, Width.code, WriteBack.width, WriteBack.maskBit, WriteBack.zeroBit]

theorem masked_legal (op : Op) (wb : WriteBack) (k : KId) (d a b : VId) (imm : Byte) (hw : wb = .merge ∨ wb = .zero)
    (h : op = .mul → imm = 0) : (Shape.fields ⟨op, wb, k, d, a, b, imm⟩).check = none := by
  rcases hw with rfl | rfl <;> cases op <;>
    simp_all [Shape.fields, Fields.check, Op.code, Width.code, WriteBack.width, WriteBack.maskBit, WriteBack.zeroBit]

theorem gfaffine128 (d a b : VId) (imm : Byte) : Statement (.gfaffine128 d a b imm) :=
  full_legal .affine .w128 d a b imm (by simp)

theorem gfaffine256 (d a b : VId) (imm : Byte) : Statement (.gfaffine256 d a b imm) :=
  full_legal .affine .w256 d a b imm (by simp)

theorem gfaffine512 (d a b : VId) (imm : Byte) : Statement (.gfaffine512 d a b imm) :=
  full_legal .affine .w512 d a b imm (by simp)

theorem gfaffine512k (d : VId) (k : KId) (a b : VId) (imm : Byte) : Statement (.gfaffine512k d k a b imm) :=
  masked_legal .affine .merge k d a b imm (by simp) (by simp)

theorem gfaffine512kz (d : VId) (k : KId) (a b : VId) (imm : Byte) : Statement (.gfaffine512kz d k a b imm) :=
  masked_legal .affine .zero k d a b imm (by simp) (by simp)

theorem gfaffineinv128 (d a b : VId) (imm : Byte) : Statement (.gfaffineinv128 d a b imm) :=
  full_legal .affineInv .w128 d a b imm (by simp)

theorem gfaffineinv256 (d a b : VId) (imm : Byte) : Statement (.gfaffineinv256 d a b imm) :=
  full_legal .affineInv .w256 d a b imm (by simp)

theorem gfaffineinv512 (d a b : VId) (imm : Byte) : Statement (.gfaffineinv512 d a b imm) :=
  full_legal .affineInv .w512 d a b imm (by simp)

theorem gfaffineinv512k (d : VId) (k : KId) (a b : VId) (imm : Byte) : Statement (.gfaffineinv512k d k a b imm) :=
  masked_legal .affineInv .merge k d a b imm (by simp) (by simp)

theorem gfaffineinv512kz (d : VId) (k : KId) (a b : VId) (imm : Byte) : Statement (.gfaffineinv512kz d k a b imm) :=
  masked_legal .affineInv .zero k d a b imm (by simp) (by simp)

theorem gfmul128 (d a b : VId) : Statement (.gfmul128 d a b) :=
  full_legal .mul .w128 d a b 0 (fun _ => rfl)

theorem gfmul256 (d a b : VId) : Statement (.gfmul256 d a b) :=
  full_legal .mul .w256 d a b 0 (fun _ => rfl)

theorem gfmul512 (d a b : VId) : Statement (.gfmul512 d a b) :=
  full_legal .mul .w512 d a b 0 (fun _ => rfl)

theorem gfmul512k (d : VId) (k : KId) (a b : VId) : Statement (.gfmul512k d k a b) :=
  masked_legal .mul .merge k d a b 0 (by simp) (fun _ => rfl)

theorem gfmul512kz (d : VId) (k : KId) (a b : VId) : Statement (.gfmul512kz d k a b) :=
  masked_legal .mul .zero k d a b 0 (by simp) (fun _ => rfl)

end Sys2Proof.Laws.EncodeLegal
end

