-- ==== Sys2Proof/Tests/Slice0.lean ====
section
/-! SUPPORT. Tests. Expected values come from the spec: `95_test_vectors.md` (its sections are named beside each test),
the worked encodings of `30_encoding.md` R97 and the examples of the rules. The last section holds a witness for the
hypotheses of each statement of `Certificates/Slice0/Obligations.lean` that has some. -/

set_option Elab.async false

namespace Sys2Proof.Tests

open Sys2Proof Sys2Proof.Machine Sys2Proof.Claims

/-- The next state of an outcome. -/
def nextOf (r : Result) : Option State :=
  match r with
  | .next s => some s
  | .fault _ => none
  | .refused _ => none

/-- Bytes `lo` to `lo + n - 1` of a register of the next state. -/
def bytesAfter (r : Result) (d : VId) (lo n : Nat) : List Byte :=
  match nextOf r with
  | some s => ((s.vreg d).toList.drop lo).take n
  | none => []

/-- A register made of a list of bytes. -/
def regOfList (l : List Byte) : VReg := Vector.ofFn fun j => l.getD j.val 0

/-- `State S` of `95_test_vectors.md` section 4. -/
def stateS : State :=
  let v1 : VReg := Vector.ofFn fun j => BitVec.ofNat 8 (17 * j.val)
  let ff : List Byte := List.replicate 8 0xFF
  let v2 : VReg := regOfList
    ([0x80, 0x40, 0x20, 0x10, 0x08, 0x04, 0x02, 0x01] ++ ff ++ [0x01, 0x02, 0x04, 0x08, 0x10, 0x20, 0x40, 0x80] ++ ff ++
      [0xF8, 0x7C, 0x3E, 0x1F, 0x8F, 0xC7, 0xE3, 0xF1] ++ ff ++ List.replicate 8 0x00 ++ ff)
  let v3 : VReg := Vector.ofFn fun j => BitVec.ofNat 8 (0xC0 + j.val)
  ((((((State.reset.setV 1 v1).setV 2 v2).setV 3 v3).setK 0 0xFFFFFFFFFFFFFFFF).setK 1 0x0000FFFF0000FFFF).setK 3
    0x8000000000000001).setK 7 0

/-- `S` with moves waiting. -/
def stateSWith (l : List Move) : State := { stateS with input := l }

/-! ## Well-formedness: each check refuses an ill-formed term (R62) -/

/-- An instance with 16 vector registers and 4 mask registers. -/
def smallConfig : Config := { nreg := 16, nkreg := 4 }

theorem test_wf_accepts : (Instr.gfmul512k 15 3 15 15).wellFormed smallConfig = true := by decide
theorem test_wf_refuses_dst : (Instr.gfmul512k 16 3 15 15).wellFormed smallConfig = false := by decide
theorem test_wf_refuses_srcA : (Instr.gfmul512k 15 3 16 15).wellFormed smallConfig = false := by decide
theorem test_wf_refuses_srcB : (Instr.gfmul512k 15 3 15 16).wellFormed smallConfig = false := by decide
theorem test_wf_refuses_kid : (Instr.gfmul512k 15 4 15 15).wellFormed smallConfig = false := by decide
theorem test_wf_refuses_kid_zero_masking : (Instr.gfaffine512kz 15 4 15 15 0).wellFormed smallConfig = false := by decide
theorem test_wf_default_accepts_all_ones : (Instr.gfmul512k 31 7 31 31).wellFormed Config.unit = true := by decide

/-! ## Decoding: one word per constructor, and one per family bit by bit from R82
(`iiiiiiii bbbbb aaaaa ddddd kkk z m vv oo`) -/

theorem test_decode_bits_gfaffine : decode 0b11111111010110101001001010111000 = .valid (.gfaffine512kz 9 2 10 11 0xFF) := by
  decide
theorem test_decode_bits_gfaffineinv : decode 0b01100011000100000100011001011001 = .valid (.gfaffineinv512k 3 1 1 2 0x63) := by
  decide
theorem test_decode_bits_gfmul : decode 0b00000000001000001100011000000110 = .valid (.gfmul256 3 3 4) := by decide
theorem test_decode_gfaffine128 : decode 0x00104600 = .valid (.gfaffine128 3 1 2 0x00) := by decide
theorem test_decode_gfaffine256 : decode 0xFF104604 = .valid (.gfaffine256 3 1 2 0xFF) := by decide
theorem test_decode_gfaffine512 : decode 0x00104608 = .valid (.gfaffine512 3 1 2 0x00) := by decide
theorem test_decode_gfaffine512k : decode 0x00104658 = .valid (.gfaffine512k 3 1 1 2 0x00) := by decide
theorem test_decode_gfaffine512kz : decode 0x00104678 = .valid (.gfaffine512kz 3 1 1 2 0x00) := by decide
theorem test_decode_gfaffineinv128 : decode 0x63104601 = .valid (.gfaffineinv128 3 1 2 0x63) := by decide
theorem test_decode_gfaffineinv256 : decode 0x63104605 = .valid (.gfaffineinv256 3 1 2 0x63) := by decide
theorem test_decode_gfaffineinv512 : decode 0x63104609 = .valid (.gfaffineinv512 3 1 2 0x63) := by decide
theorem test_decode_gfaffineinv512k : decode 0x63104659 = .valid (.gfaffineinv512k 3 1 1 2 0x63) := by decide
theorem test_decode_gfaffineinv512kz : decode 0x63104679 = .valid (.gfaffineinv512kz 3 1 1 2 0x63) := by decide
theorem test_decode_gfmul128 : decode 0x00104602 = .valid (.gfmul128 3 1 2) := by decide
theorem test_decode_gfmul256 : decode 0x00104606 = .valid (.gfmul256 3 1 2) := by decide
theorem test_decode_gfmul512 : decode 0x0010460A = .valid (.gfmul512 3 1 2) := by decide
theorem test_decode_gfmul512k : decode 0x0010465A = .valid (.gfmul512k 3 1 1 2) := by decide
theorem test_decode_gfmul512kz : decode 0x0010467A = .valid (.gfmul512kz 3 1 1 2) := by decide

/-- `95_test_vectors.md` section 3: the free fields all ones, and one violation of each cause. -/
theorem test_decode_all_ones : decode 0xFFFFFFF9 = .valid (.gfaffineinv512kz 31 7 31 31 0xFF) := by decide
theorem test_decode_opcode : decode 0xFFFFFFFF = .violation .opcode := by decide
theorem test_decode_width : decode 0x0000000C = .violation .width := by decide
theorem test_decode_mask_width : decode 0x00104056 = .violation .maskWidth := by decide
theorem test_decode_reserved_z : decode 0x00000028 = .violation .reserved := by decide
theorem test_decode_reserved_kid : decode 0x00000040 = .violation .reserved := by decide
theorem test_decode_reserved_imm : decode 0x0100001A = .violation .reserved := by decide
theorem test_decode_table_word : decodeTableWord 32 0x0020C606 = some (.gfmul256 3 3 4) := by decide
theorem test_decode_table_word_violation : decodeTableWord 32 3 = none := by decide

/-- An instance with fewer registers refuses a move of the environment that names a register it lacks (R62). -/
theorem test_small_instance_refuses_readK :
    stepIn smallConfig (stateSWith [.readK 4]) = .refused .identifierOutOfRange :=
  (stepIn_cons smallConfig (stateSWith [.readK 4]) _ [] (by decide +kernel) rfl).trans
    (runMoveIn_refused _ _ _ (by decide))

/-- It takes one that names its last register. -/
theorem test_small_instance_takes_writeV :
    (nextOf (stepIn smallConfig (stateSWith [.writeV 15 (Vector.replicate 64 0x77)]))).map (fun t => (t.vreg 15)[63]) =
    some 0x77 := by decide +kernel

/-! ## Kernels and tables (`95_test_vectors.md` section 2) -/

theorem test_parity : parity 0x03 = false ∧ parity 0x07 = true := by decide
theorem test_affine_first_row : affine 0x00000000000000FF 0x07 0x00 = 0x80 := by decide
theorem test_affine_last_row : affine 0xFF00000000000000 0x07 0x00 = 0x01 := by decide
theorem test_affineInverse_sbox : affineInverse 0xF1E3C78F1F3E7CF8 0x10 0x63 = 0xCA := by decide
theorem test_gfMultiply_sum_255 : gfMultiply Config.unit 0x02 0x8D = 0x01 := by decide
theorem test_gfMultiply_sum_256 : gfMultiply Config.unit 0xFB 0xFB = 0x03 := by decide
theorem test_gfMultiply_sum_508 : gfMultiply Config.unit 0xF6 0xF6 = 0x52 := by decide
theorem test_gfMulRef_worked : gfMulRef 0x57 0x83 = 0xC1 := by decide
theorem test_table_sums : (invTable.map BitVec.toNat).sum = 32640 ∧ ((logTable3.drop 1).map BitVec.toNat).sum = 32385 ∧
    ((expTable3.take 255).map BitVec.toNat).sum = 32640 := by decide +kernel
theorem test_tables_full : invTable.length = 256 ∧ logTable3.length = 256 ∧ expTable3.length = 256 := by decide +kernel

/-! ## Instructions (`95_test_vectors.md` section 4): one lane of each result, and the lane above the width or the mask -/

/-- A1, lanes 0 and 1. -/
theorem test_gfaffine128 : bytesAfter (exec (.gfaffine128 3 1 2 0x00) stateS) 3 0 32 =
    [0x00, 0x11, 0x22, 0x33, 0x44, 0x55, 0x66, 0x77, 0x88, 0x99, 0xAA, 0xBB, 0xCC, 0xDD, 0xEE, 0xFF] ++
    [0x00, 0x00, 0x00, 0x00, 0x00, 0x00, 0x00, 0x00, 0x00, 0x00, 0x00, 0x00, 0x00, 0x00, 0x00, 0x00] := by
  decide +kernel
/-- A2, lanes 1 and 2. -/
theorem test_gfaffine256 : bytesAfter (exec (.gfaffine256 3 1 2 0xFF) stateS) 3 16 32 =
    [0xF7, 0x7B, 0xB3, 0x3D, 0xD5, 0x59, 0x91, 0x1E, 0xE6, 0x6A, 0xA2, 0x2C, 0xC4, 0x48, 0x80, 0x0F] ++
    [0x00, 0x00, 0x00, 0x00, 0x00, 0x00, 0x00, 0x00, 0x00, 0x00, 0x00, 0x00, 0x00, 0x00, 0x00, 0x00] := by
  decide +kernel
/-- A3, lanes 2 and 3. -/
theorem test_gfaffine512 : bytesAfter (exec (.gfaffine512 3 1 2 0x00) stateS) 3 32 32 =
    [0xE3, 0x0D, 0xF9, 0x17, 0x58, 0xB6, 0xCD, 0x23, 0x94, 0x7A, 0x8E, 0x60, 0x2F, 0xC1, 0xBA, 0x54] ++
    [0x00, 0x00, 0x00, 0x00, 0x00, 0x00, 0x00, 0x00, 0x00, 0x00, 0x00, 0x00, 0x00, 0x00, 0x00, 0x00] := by
  decide +kernel
/-- A4, lanes 2 and 3. -/
theorem test_gfaffine512k : bytesAfter (exec (.gfaffine512k 3 1 1 2 0x00) stateS) 3 32 32 =
    [0xE3, 0x0D, 0xF9, 0x17, 0x58, 0xB6, 0xCD, 0x23, 0x94, 0x7A, 0x8E, 0x60, 0x2F, 0xC1, 0xBA, 0x54] ++
    [0xF0, 0xF1, 0xF2, 0xF3, 0xF4, 0xF5, 0xF6, 0xF7, 0xF8, 0xF9, 0xFA, 0xFB, 0xFC, 0xFD, 0xFE, 0xFF] := by
  decide +kernel
/-- A5, lanes 0 and 1. -/
theorem test_gfaffine512kz : bytesAfter (exec (.gfaffine512kz 3 1 1 2 0x00) stateS) 3 0 32 =
    [0x00, 0x11, 0x22, 0x33, 0x44, 0x55, 0x66, 0x77, 0x88, 0x99, 0xAA, 0xBB, 0xCC, 0xDD, 0xEE, 0xFF] ++
    [0x00, 0x00, 0x00, 0x00, 0x00, 0x00, 0x00, 0x00, 0x00, 0x00, 0x00, 0x00, 0x00, 0x00, 0x00, 0x00] := by
  decide +kernel
/-- I1, lanes 0 and 1. -/
theorem test_gfaffineinv128 : bytesAfter (exec (.gfaffineinv128 3 1 2 0x63) stateS) 3 0 32 =
    [0x63, 0xD7, 0x39, 0x0F, 0x4E, 0x47, 0x55, 0x5F, 0xF8, 0x77, 0x71, 0x5E, 0x78, 0x9B, 0x7D, 0x7F] ++
    [0x00, 0x00, 0x00, 0x00, 0x00, 0x00, 0x00, 0x00, 0x00, 0x00, 0x00, 0x00, 0x00, 0x00, 0x00, 0x00] := by
  decide +kernel
/-- I2, lanes 1 and 2. -/
theorem test_gfaffineinv256 : bytesAfter (exec (.gfaffineinv256 3 1 2 0x63) stateS) 3 16 32 =
    [0x4D, 0x15, 0x2A, 0x85, 0x51, 0x06, 0x3E, 0x09, 0x37, 0x70, 0x0D, 0x43, 0xDA, 0x69, 0xE1, 0x80] ++
    [0x00, 0x00, 0x00, 0x00, 0x00, 0x00, 0x00, 0x00, 0x00, 0x00, 0x00, 0x00, 0x00, 0x00, 0x00, 0x00] := by
  decide +kernel
/-- I3, lanes 2 and 3. -/
theorem test_gfaffineinv512 : bytesAfter (exec (.gfaffineinv512 3 1 2 0x63) stateS) 3 32 32 =
    [0xB7, 0xC7, 0x2C, 0xED, 0x43, 0x9D, 0x44, 0x88, 0xC2, 0x56, 0x74, 0xB9, 0xCE, 0x54, 0xAB, 0xC0] ++
    [0x63, 0x63, 0x63, 0x63, 0x63, 0x63, 0x63, 0x63, 0x63, 0x63, 0x63, 0x63, 0x63, 0x63, 0x63, 0x63] := by
  decide +kernel
/-- I4, lanes 2 and 3. -/
theorem test_gfaffineinv512k : bytesAfter (exec (.gfaffineinv512k 3 1 1 2 0x63) stateS) 3 32 32 =
    [0xB7, 0xC7, 0x2C, 0xED, 0x43, 0x9D, 0x44, 0x88, 0xC2, 0x56, 0x74, 0xB9, 0xCE, 0x54, 0xAB, 0xC0] ++
    [0xF0, 0xF1, 0xF2, 0xF3, 0xF4, 0xF5, 0xF6, 0xF7, 0xF8, 0xF9, 0xFA, 0xFB, 0xFC, 0xFD, 0xFE, 0xFF] := by
  decide +kernel
/-- I5, lanes 0 and 1. -/
theorem test_gfaffineinv512kz : bytesAfter (exec (.gfaffineinv512kz 3 1 1 2 0x63) stateS) 3 0 32 =
    [0x63, 0xD7, 0x39, 0x0F, 0x4E, 0x47, 0x55, 0x5F, 0xF8, 0x77, 0x71, 0x5E, 0x78, 0x9B, 0x7D, 0x7F] ++
    [0x00, 0x00, 0x00, 0x00, 0x00, 0x00, 0x00, 0x00, 0x00, 0x00, 0x00, 0x00, 0x00, 0x00, 0x00, 0x00] := by
  decide +kernel
/-- M1, lanes 0 and 1. -/
theorem test_gfmul128 : bytesAfter (exec (.gfmul128 3 1 2) stateS) 3 0 32 =
    [0x00, 0x2C, 0x2C, 0x1D, 0x16, 0x4F, 0xCC, 0x77, 0xDC, 0x4A, 0xEB, 0x7D, 0xB2, 0x24, 0x85, 0x13] ++
    [0x00, 0x00, 0x00, 0x00, 0x00, 0x00, 0x00, 0x00, 0x00, 0x00, 0x00, 0x00, 0x00, 0x00, 0x00, 0x00] := by
  decide +kernel
/-- M2, lanes 1 and 2. -/
theorem test_gfmul256 : bytesAfter (exec (.gfmul256 3 1 2) stateS) 3 16 32 =
    [0x10, 0x42, 0xC8, 0x2E, 0x37, 0x14, 0x84, 0x37, 0xB5, 0xF1, 0x82, 0x79, 0xDB, 0x9F, 0xEC, 0x72] ++
    [0x00, 0x00, 0x00, 0x00, 0x00, 0x00, 0x00, 0x00, 0x00, 0x00, 0x00, 0x00, 0x00, 0x00, 0x00, 0x00] := by
  decide +kernel
/-- M3, lanes 2 and 3. -/
theorem test_gfmul512 : bytesAfter (exec (.gfmul512 3 1 2) stateS) 3 32 32 =
    [0x32, 0xE4, 0x65, 0x4B, 0xFA, 0x9C, 0x9B, 0x4C, 0x0E, 0x98, 0x86, 0x10, 0x60, 0xF6, 0x8D, 0x1B] ++
    [0x00, 0x00, 0x00, 0x00, 0x00, 0x00, 0x00, 0x00, 0x67, 0x9C, 0xEF, 0xAB, 0x09, 0x97, 0xE4, 0xA0] := by
  decide +kernel
/-- M4, lanes 2 and 3. -/
theorem test_gfmul512k : bytesAfter (exec (.gfmul512k 3 1 1 2) stateS) 3 32 32 =
    [0x32, 0xE4, 0x65, 0x4B, 0xFA, 0x9C, 0x9B, 0x4C, 0x0E, 0x98, 0x86, 0x10, 0x60, 0xF6, 0x8D, 0x1B] ++
    [0xF0, 0xF1, 0xF2, 0xF3, 0xF4, 0xF5, 0xF6, 0xF7, 0xF8, 0xF9, 0xFA, 0xFB, 0xFC, 0xFD, 0xFE, 0xFF] := by
  decide +kernel
/-- M5, lanes 0 and 1. -/
theorem test_gfmul512kz : bytesAfter (exec (.gfmul512kz 3 1 1 2) stateS) 3 0 32 =
    [0x00, 0x2C, 0x2C, 0x1D, 0x16, 0x4F, 0xCC, 0x77, 0xDC, 0x4A, 0xEB, 0x7D, 0xB2, 0x24, 0x85, 0x13] ++
    [0x00, 0x00, 0x00, 0x00, 0x00, 0x00, 0x00, 0x00, 0x00, 0x00, 0x00, 0x00, 0x00, 0x00, 0x00, 0x00] := by
  decide +kernel
/-- A12, lanes 1 and 2: destination and both sources the same register. -/
theorem test_aliasing : bytesAfter (exec (.gfaffine512 2 2 2 0x00) stateS) 2 16 32 =
    [0x80, 0x40, 0x20, 0x10, 0x08, 0x04, 0x02, 0x01, 0xFF, 0xFF, 0xFF, 0xFF, 0xFF, 0xFF, 0xFF, 0xFF] ++
    [0xA2, 0x51, 0xA8, 0x54, 0x2A, 0x15, 0x8A, 0x45, 0xFF, 0xFF, 0xFF, 0xFF, 0xFF, 0xFF, 0xFF, 0xFF] := by
  decide +kernel
/-- M11, lanes 0 and 1: the one-source shape also zero-extends. -/
theorem test_one_source : bytesAfter (exec (.gfmul128 3 3 2) stateS) 3 0 32 =
    [0xD7, 0xA6, 0x33, 0x84, 0x7A, 0x39, 0x97, 0xC7, 0x63, 0x9C, 0x86, 0x79, 0xB2, 0x4D, 0x57, 0xA8] ++
    [0x00, 0x00, 0x00, 0x00, 0x00, 0x00, 0x00, 0x00, 0x00, 0x00, 0x00, 0x00, 0x00, 0x00, 0x00, 0x00] := by
  decide +kernel
/-- A3 with `MATRIX_SPAN = 8`, lane 1. -/
theorem test_span8 : bytesAfter (runCommand { Config.unit with matrixSpan := .s8 } (Instr.gfaffine512 3 1 2 0x00).shape stateS) 3 16 16 =
    [0x08, 0x84, 0x4C, 0xC2, 0x2A, 0xA6, 0x6E, 0xE1, 0xFF, 0x00, 0xFF, 0xFF, 0xFF, 0x00, 0xFF, 0x00] := by
  decide +kernel

/-! ## Steps (`95_test_vectors.md` sections 6 and 7) -/

/-- `STATUS` and `cix` of the next state. -/
def statusAfter (r : Result) : Option (BitVec 4 × Nat) := (nextOf r).map fun t => (t.status, t.cix)

/-- H3: a violating word sets `HALTED` and `CAUSE`; `cix` stays. -/
theorem test_violation : statusAfter (step (stateSWith [.command 0x0000000C])) = some (0b0101, 0) := by decide +kernel

/-- H9: a halted unit does not take another violating word, and `CAUSE` stays. -/
theorem test_halted_keeps_cause :
    statusAfter (step { stateSWith [.command 0x00000003] with status := 0b0101, cix := 1 }) = some (0b0101, 1) := by
  decide +kernel

/-- P4, third command: a valid word presented to a halted unit is not executed. -/
theorem test_halted_takes_no_command :
    nextOf (step { stateSWith [.command 0x0010400A] with status := 0b0111 }) = some { stateS with status := 0b0111 } := by
  decide +kernel

/-- H10: reset leaves the halt. -/
theorem test_reset_move : statusAfter (step { stateSWith [.reset] with status := 0b0111, cix := 9 }) = some (0, 0) := by
  decide +kernel

/-- H1: the state right after reset. -/
theorem test_reset_state : State.reset.halted = false ∧ State.reset.cause = 0 ∧ State.reset.cix = 0 := by decide +kernel

/-- A move of the environment (R49). -/
theorem test_writeV : (nextOf (step (stateSWith [.writeV 31 (Vector.replicate 64 0x77)]))).map (fun t => (t.vreg 31)[63]) =
    some 0x77 := by decide +kernel

/-- The word of an opcode-table row runs as the first instruction after reset. -/
theorem test_first_instruction :
    nextOf (step (State.reset.withFetchWord 32 0x00104002)) = nextOf (exec (.gfmul128 0 1 2) State.reset) := by
  decide +kernel

theorem test_first_instruction_runs : statusAfter (step (State.reset.withFetchWord 32 0x63104001)) = some (0, 1) := by
  decide +kernel

/-- The written form of the third example of R97. -/
theorem test_assembly : assembly (.gfmul256 3 3 4) = "GFMUL.256 v3, v3, v4" := by decide +kernel

/-- The pseudo-instruction `GFMUL.256 v3, v4` of P2. -/
theorem test_one_source_expansion :
    (assemble ⟨.mul, .w256, 3, none, false, none, 4, none⟩).map encode = some 0x0020C606 := by decide

/-- The masked row of R97, and a mask on a `.256` mnemonic, an assembly error (R95). -/
theorem test_assemble_masked :
    (assemble ⟨.affine, .w512, 9, some 2, true, some 10, 11, some 0xFF⟩).map encode = some 0xFF5A92B8 ∧
    assemble ⟨.mul, .w256, 0, some 1, false, some 1, 2, none⟩ = none := by decide

/-! ## Witnesses: for each statement with hypotheses, a concrete state and operands that meet all of them together -/

theorem witness_ValidWordIsItsEncoding : decode 0x00FFFFFA = .valid (.gfmul512kz 31 7 31 31) := by decide

/-- One word for each clause, in order; the last is the valid one. -/
theorem witness_DecodeFollowsTheChecks :
    opOf 0xFFFFFFFF = 3 ∧
    (opOf 0x0000001C ≠ 3 ∧ vlOf 0x0000001C = 3) ∧
    (opOf 0x00000014 ≠ 3 ∧ vlOf 0x00000014 ≠ 3 ∧ mOf 0x00000014 = 1 ∧ vlOf 0x00000014 ≠ 2) ∧
    (opOf 0x000001C0 ≠ 3 ∧ vlOf 0x000001C0 ≠ 3 ∧ mOf 0x000001C0 = 0 ∧ kidOf 0x000001C0 ≠ 0) ∧
    (opOf 0x00000028 ≠ 3 ∧ vlOf 0x00000028 ≠ 3 ∧ mOf 0x00000028 = 0 ∧ zOf 0x00000028 = 1) ∧
    (opOf 0x0100001A = 2 ∧ vlOf 0x0100001A = 2 ∧ mOf 0x0100001A = 1 ∧ immOf 0x0100001A ≠ 0) ∧
    (opOf 0x00FFFFFA = 2 ∧ vlOf 0x00FFFFFA = 2 ∧ mOf 0x00FFFFFA = 1 ∧ immOf 0x00FFFFFA = 0) := by decide

/-- A row with a word that matches it, and a word that matches no row. -/
theorem witness_OpcodeMapIsExact :
    (⟨"GFMUL.256", 0x00000006, 0xFF0001FF⟩ : OpcodeRow) ∈ opcodeMap ∧
    (0x0020C606 : CommandWord) &&& 0xFF0001FF = 0x00000006 ∧
    (opcodeMap.all fun row => row.matches 0x00000003 == false) = true := by decide

theorem witness_FirstFailingCheckIsReported :
    opOf 0x01000002 ≠ 3 ∧ vlOf 0x01000002 ≠ 3 ∧ mOf 0x01000002 = 0 ∧ opOf 0x01000002 = 2 ∧ immOf 0x01000002 ≠ 0 := by
  decide

theorem witness_InverseTableProperties : (0xFF : Byte) ≠ 0 := by decide
theorem witness_InverseIsUnique : (0x01 : Byte) ≠ 0 ∧ gfMulRef 0x53 0xCA = 1 := by decide

/-- Two generators, with the exponents at the ends of their range. -/
theorem witness_LogAndExpOfEveryGenerator :
    isGenerator Config.unit.gen = true ∧ isGenerator 0xE5 = true ∧ 0 < 255 ∧ 254 < 255 := by decide +kernel

theorem witness_LogExpAreInverse : (0x01 : Byte) ≠ 0 ∧ (0xFF : Byte) ≠ 0 ∧ 0 < 255 ∧ 254 < 255 := by decide
theorem witness_InverseThroughLogarithms : (0x01 : Byte) ≠ 0 := by decide
theorem witness_GeneratorsOfTheField : isGenerator 0x03 = true := by decide +kernel
theorem witness_AffineClosedForm : 0 < 8 ∧ 7 < 8 := by decide
theorem witness_MultiplyIsTheSameForEveryGenerator : isGenerator 0xE5 = true := by decide +kernel
theorem witness_MultiplyFieldLaws : gfMultiply Config.unit 0 0xAB = 0 ∧ (0x53 : Byte) ≠ 0 := by decide

/-- Operands with a sum of exactly 255, and with the largest sum, 508. -/
theorem witness_LogSumRange : (0x53 : Byte) ≠ 0 ∧ (0xCA : Byte) ≠ 0 ∧
    log Config.unit 0x53 + log Config.unit 0xCA = 255 ∧ log Config.unit 0xF6 + log Config.unit 0xF6 = 508 := by
  decide +kernel

theorem witness_SampleProducts : gfMulRef 0x01 0xAB = 0xAB := by decide

/-- Both spans at the last byte of a lane, for the lowest and the highest output bit. -/
theorem witness_LaneRowOrder :
    (0 = (15 : Fin 16).val / Config.unit.matrixSpan.bytes ∧ 8 * 0 + 7 - 7 < 16) ∧
    (1 = (15 : Fin 16).val / MatrixSpan.s8.bytes ∧ 8 * 1 + 7 - 0 < 16) := by decide

/-- Two pairs of lanes that differ in the other bytes. -/
def laneX : Lane := Vector.ofFn fun k => BitVec.ofNat 8 (k.val + 1)
/-- See `laneX`: it agrees with it on bytes 0..7 only. -/
def laneY : Lane := Vector.ofFn fun k => if k.val < 8 then BitVec.ofNat 8 (k.val + 1) else 0xEE
/-- See `laneX`: it agrees with it on bytes 8..15 only. -/
def laneZ : Lane := Vector.ofFn fun k => if k.val < 8 then 0xEE else BitVec.ofNat 8 (k.val + 1)

theorem witness_LaneBytesAreIndependent : laneX[(3 : Fin 16)] = laneY[(3 : Fin 16)] ∧ laneX ≠ laneY ∧
    (∀ j : Fin 8, laneX[8 * ((3 : Fin 16).val / Config.unit.matrixSpan.bytes) + j.val]? =
      laneY[8 * ((3 : Fin 16).val / Config.unit.matrixSpan.bytes) + j.val]?) := by decide +kernel

theorem witness_MatrixSpanSelectsTheMatrix : Config.unit.matrixSpan = .s16 ∧
    ({ Config.unit with matrixSpan := .s8 } : Config).matrixSpan = .s8 ∧
    (∀ j : Fin 16, j.val < 8 → laneX[j] = laneY[j]) ∧ (∀ j : Fin 16, 8 ≤ j.val → laneX[j] = laneZ[j]) := by
  decide +kernel

/-- A running state, for the six statements of the instruction forms. -/
theorem witness_GfaffineUnmaskedForms : stateS.halted = false := by decide +kernel
theorem witness_GfaffineMaskedForms : State.reset.halted = false := by decide
theorem witness_GfaffineinvUnmaskedForms : (State.launch stateS.v stateS.k).halted = false := by decide +kernel
theorem witness_GfaffineinvMaskedForms : (stateSWith [.reset]).halted = false := by decide +kernel
theorem witness_GfmulUnmaskedForms : ({ stateS with cix := 5 } : State).halted = false := by decide +kernel
theorem witness_GfmulMaskedForms : ({ stateS with status := 0b0110 } : State).halted = false := by decide +kernel

/-- A masked byte at the top of the register, and an unmasked one at the edge of its width. -/
theorem witness_GfmulBytesAreReferenceProducts :
    isGenerator Config.unit.gen = true ∧
    (∃ t, (Instr.gfmul512k 3 3 1 2).shape.op = .mul ∧ stateS.halted = false ∧
      runCommand Config.unit (Instr.gfmul512k 3 3 1 2).shape stateS = .next t ∧
      (63 : Fin 64).val < (Instr.gfmul512k 3 3 1 2).shape.wb.width.bytes ∧
      (stateS.kreg (Instr.gfmul512k 3 3 1 2).shape.kid).getLsbD 63 = true) ∧
    (∃ t, runCommand Config.unit (Instr.gfmul128 3 1 2).shape stateS = .next t ∧ 15 < (Instr.gfmul128 3 1 2).shape.wb.width.bytes ∧
      (Instr.gfmul128 3 1 2).shape.wb.maskBit ≠ 1) :=
  ⟨by decide +kernel, ⟨_, rfl, by decide +kernel, runCommand_unit _ _, by decide, by decide +kernel⟩, _,
    runCommand_unit _ _, by decide, by decide⟩

theorem witness_InverseFormIsInversionThenAffine :
    let s := stateS.setV 9 (regOfList ((List.replicate 4
      ([0x80, 0x40, 0x20, 0x10, 0x08, 0x04, 0x02, 0x01] ++ List.replicate 8 0xFF)).flatten))
    s.halted = false ∧ (4 : VId) ≠ 2 ∧ (4 : VId) ≠ 3 ∧ ∀ l : Fin 4, laneMat (s.vreg 9) l = 0x0102040810204080 := by decide +kernel

theorem witness_BytesAboveTheWidthAreZero : ∃ t, stateS.halted = false ∧ exec (.gfaffine128 3 1 2 0xFF) stateS = .next t ∧
    (Instr.gfaffine128 3 1 2 0xFF).shape.wb.width.bytes ≤ (16 : Fin 64).val :=
  ⟨_, by decide +kernel, exec_eq _ _, by decide⟩

/-- Both policies, at bytes whose mask bit is clear. -/
theorem witness_MaskedOffBytes :
    (∃ t, exec (.gfmul512k 3 3 1 2) stateS = .next t ∧ (stateS.kreg 3).getLsbD 62 = false ∧
      (Instr.gfmul512k 3 3 1 2).shape.wb = .merge) ∧
    (∃ t, exec (.gfmul512kz 3 7 1 2) stateS = .next t ∧ (stateS.kreg 7).getLsbD 0 = false ∧
      (Instr.gfmul512kz 3 7 1 2).shape.wb = .zero) :=
  ⟨⟨_, exec_eq _ _, by decide +kernel, rfl⟩, _, exec_eq _ _, by decide +kernel, rfl⟩

/-- The all-ones mask `k0` and the all-zeros mask `k7` of state `S`, with a merging and a zeroing form. -/
theorem witness_MaskExtremes :
    (∃ t u, (Instr.gfaffine512k 3 0 1 2 9).shape.wb = .merge ∧ (Instr.gfaffine512 3 1 2 9).shape.wb = .full .w512 ∧
      exec (.gfaffine512k 3 0 1 2 9) stateS = .next t ∧ exec (.gfaffine512 3 1 2 9) stateS = .next u ∧
      stateS.kreg 0 = BitVec.allOnes 64) ∧
    (∃ t u, (Instr.gfaffine512kz 3 7 1 2 9).shape.wb = .zero ∧ exec (.gfaffine512kz 3 7 1 2 9) stateS = .next t ∧
      exec (.gfaffine512 3 1 2 9) stateS = .next u ∧ stateS.kreg 7 = 0) :=
  ⟨⟨_, _, rfl, rfl, exec_eq _ _, exec_eq _ _, by decide +kernel⟩, _, _, rfl, exec_eq _ _, exec_eq _ _, by decide +kernel⟩

/-- State `S` with lane 3 of `v1` and `v2` placed in lane 0 of `v4` and `v5`. -/
def stateLane3 : State :=
  (stateS.setV 4 (regOfList ((stateS.vreg 1).toList.drop 48))).setV 5 (regOfList ((stateS.vreg 2).toList.drop 48))

theorem witness_WidthIndependence : ∃ t t',
    (Instr.gfmul512 3 1 2).shape.wb = .full .w512 ∧ (Instr.gfmul128 3 4 5).shape.wb = .full .w128 ∧
    (3 : Fin 4).val < Width.w512.lanes ∧ stateS.halted = false ∧ stateLane3.halted = false ∧
    (∀ k : Fin 16, (stateS.vreg 1)[16 * 3 + k.val]? = (stateLane3.vreg 4)[k.val]?) ∧
    (∀ k : Fin 16, (stateS.vreg 2)[16 * 3 + k.val]? = (stateLane3.vreg 5)[k.val]?) ∧
    exec (.gfmul512 3 1 2) stateS = .next t ∧ exec (.gfmul128 3 4 5) stateLane3 = .next t' :=
  ⟨_, _, rfl, rfl, by decide, by decide +kernel, by decide +kernel, by decide +kernel, by decide +kernel,
    exec_eq _ _, exec_eq _ _⟩

/-- Two states that differ in bytes 16..63 of a source and in the old destination. -/
theorem witness_OnlyTheReadBytesMatter :
    let s' := (stateS.setV 3 (Vector.replicate 64 0)).setV 1 (regOfList ((stateS.vreg 1).toList.take 16))
    stateS.vreg 1 ≠ s'.vreg 1 ∧ s'.halted = false ∧
    (∀ j : Fin 64, j.val < (Instr.gfaffineinv128 3 1 2 0x63).shape.wb.width.bytes → (stateS.vreg 1)[j] = (s'.vreg 1)[j]) ∧
    (∀ j : Fin 64, j.val < (Instr.gfaffineinv128 3 1 2 0x63).shape.wb.width.bytes → (stateS.vreg 2)[j] = (s'.vreg 2)[j]) ∧
    ∃ t t', exec (.gfaffineinv128 3 1 2 0x63) stateS = .next t ∧ exec (.gfaffineinv128 3 1 2 0x63) s' = .next t' := by
  refine ⟨by decide +kernel, by decide +kernel, by decide +kernel, by decide +kernel, _, _, exec_eq _ _, exec_eq _ _⟩

theorem witness_RepeatingACommand : ∃ t u, (Instr.gfmul512k 3 1 1 2).shape.dst ≠ (Instr.gfmul512k 3 1 1 2).shape.srcA ∧
    (Instr.gfmul512k 3 1 1 2).shape.dst ≠ (Instr.gfmul512k 3 1 1 2).shape.srcB ∧
    exec (.gfmul512k 3 1 1 2) stateS = .next t ∧ exec (.gfmul512k 3 1 1 2) t = .next u :=
  ⟨_, _, by decide, by decide, exec_eq _ _, exec_eq _ _⟩

theorem witness_FrameOfEveryForm : ∃ t, exec (.gfaffine256 3 1 2 0) stateS = .next t ∧
    (4 : VId) ≠ (Instr.gfaffine256 3 1 2 0).shape.dst := ⟨_, exec_eq _ _, by decide⟩

theorem witness_EveryFormTerminates : stateS.halted = false := by decide +kernel

theorem witness_StepRunsTheDecodedInstruction :
    (stateSWith [.command 0x00104002]).input = .command 0x00104002 :: [] ∧
    decode 0x00104002 = .valid (.gfmul128 0 1 2) := ⟨rfl, by decide⟩

theorem witness_ViolationHaltsTheUnit : (stateSWith [.command 0x0000001F]).halted = false ∧
    (stateSWith [.command 0x0000001F]).input = .command 0x0000001F :: [] ∧
    decode 0x0000001F = .violation .opcode ∧ (∃ u, Move.readK 7 ≠ .reset ∧
      step { haltUnit .opcode stateS with input := [.readK 7] } = .next u) :=
  ⟨by decide +kernel, rfl, by decide, _, by decide, rfl⟩

/-- State `S` halted with cause 3, with moves waiting. -/
def haltedWith (l : List Move) : State := { stateS with status := 0b0111, input := l }

theorem witness_HaltedUnitTakesNoCommand : (haltedWith [.command 0x00104002]).halted = true ∧
    (haltedWith [.command 0x00104002]).input = .command 0x00104002 :: [] := ⟨by decide +kernel, rfl⟩

theorem witness_EnvironmentMoves :
    (stateSWith [.writeV 31 (Vector.replicate 64 1)]).input = .writeV 31 (Vector.replicate 64 1) :: [] ∧
    (stateSWith [.writeK 7 1]).input = .writeK 7 1 :: [] ∧ (stateSWith [.readV 0]).input = .readV 0 :: [] ∧
    (stateSWith [.readK 0]).input = .readK 0 :: [] ∧
    (stateSWith [.observeStatus]).input = .observeStatus :: [] := ⟨rfl, rfl, rfl, rfl, rfl⟩

theorem witness_ResetClearsStatusAndIndex : (haltedWith [.reset]).input = .reset :: [] := rfl

/-- A halted state that a reset leaves, and one that another move does not. -/
theorem witness_OnlyResetClearsTheHalt :
    (∃ t, step (haltedWith [.reset]) = .next t ∧ (haltedWith [.reset]).status ≠ 0 ∧ t.status = 0) ∧
    (∃ t, step (haltedWith [.readV 0]) = .next t ∧ (haltedWith [.readV 0]).halted = true ∧
      (haltedWith [.readV 0]).input.head? ≠ some .reset) :=
  ⟨⟨_, rfl, by decide, rfl⟩, _, rfl, by decide +kernel, by decide +kernel⟩

/-- One step for each clause. -/
theorem witness_CommandIndexCounts :
    (∃ t, step (stateSWith [.command 0x00104002]) = .next t) ∧
    (∃ t, step (stateSWith [.command 0x00000003]) = .next t ∧ decode 0x00000003 = .violation .opcode) ∧
    (∃ t, step (haltedWith [.command 0x00104002]) = .next t ∧ (haltedWith [.command 0x00104002]).halted = true) ∧
    (∃ t, step (stateSWith [.readK 7]) = .next t ∧ Move.isCommand (.readK 7) = false ∧ Move.readK 7 ≠ .reset) ∧
    (∃ t, step (stateSWith [.reset]) = .next t) ∧ (∃ t, exec (.gfmul128 0 1 2) stateS = .next t) := by
  refine ⟨?_, ?_, ⟨haltedWith [], ?_⟩, ⟨_, rfl, rfl, by decide⟩, ⟨_, rfl⟩, _, exec_eq _ _⟩
  · have h : decode 0x00104002 = .valid (.gfmul128 0 1 2) := by decide
    have e : presentCommand 0x00104002 (stateSWith []) = exec (.gfmul128 0 1 2) (stateSWith []) := by
      simp only [presentCommand, h]
    exact ⟨_, ((step_cons (stateSWith [.command 0x00104002]) _ [] rfl).trans e).trans (exec_eq _ _)⟩
  · exact ⟨haltUnit .opcode stateS, rfl, by decide⟩
  · have h : decode 0x00104002 = .valid (.gfmul128 0 1 2) := by decide
    have hh : (haltedWith []).halted = true := by decide +kernel
    have e : presentCommand 0x00104002 (haltedWith []) = exec (.gfmul128 0 1 2) (haltedWith []) := by
      simp only [presentCommand, h]
    refine ⟨((step_cons (haltedWith [.command 0x00104002]) _ [] rfl).trans e).trans ?_, by decide +kernel⟩
    rw [exec_eq, hh, if_pos rfl]

theorem witness_KindsOfTransition : ∃ t, step (stateSWith [.command 0x00000003]) = .next t :=
  ⟨haltUnit .opcode stateS, rfl⟩

/-- A running and a halted state, both legal, each with a step. -/
theorem witness_StatusStaysLegal :
    (StatusLegal (stateSWith [.command 0x00000003]) ∧ ∃ t, step (stateSWith [.command 0x00000003]) = .next t) ∧
    StatusLegal (haltedWith [.reset]) ∧ ∃ t, step (haltedWith [.reset]) = .next t :=
  ⟨⟨by decide +kernel, haltUnit .opcode stateS, rfl⟩, by decide +kernel, _, rfl⟩

theorem witness_ContractKeptMeansNoHalt :
    (stateSWith [.command 0x00104002, .writeK 1 0, .command 0x0041CC5A]).halted = false ∧
    (stateSWith [.command 0x00104002, .writeK 1 0, .command 0x0041CC5A]).contractKept = true ∧
    Move.reset ∉ (stateSWith [.command 0x00104002, .writeK 1 0, .command 0x0041CC5A]).input := by decide +kernel

/-- A valid and a violating word presented to a running unit. -/
theorem witness_PortTraffic : (stateSWith [.command 0x0041CC5A]).halted = false ∧
    (stateSWith [.command 0x0041CC5A]).input = .command 0x0041CC5A :: [] ∧
    decode 0x0041CC5A = .valid (.gfmul512k 6 1 7 8) ∧ (stateSWith [.command 0x00000003]).halted = false ∧
    decode 0x00000003 = .violation .opcode := ⟨by decide +kernel, rfl, by decide, by decide +kernel, by decide⟩

/-- An instance with fewer registers, an identifier at its edge and one beyond it. -/
theorem witness_IdentifiersOutOfRange : stateS.halted = false ∧
    smallConfig.nreg ≤ (Instr.gfmul128 16 0 0).shape.dst.toNat ∧ ¬smallConfig.nreg ≤ (Instr.gfmul128 15 0 0).shape.dst.toNat ∧
    (Instr.gfmul512k 0 4 0 0).shape.wb.maskBit = 1 ∧ smallConfig.nkreg ≤ (Instr.gfmul512k 0 4 0 0).shape.kid.toNat ∧
    acceptable smallConfig = true ∧ (stateSWith [.readK 4]).input = .readK 4 :: [] ∧
    Move.isCommand (.readK 4) = false ∧ smallConfig.nkreg ≤ (4 : KId).toNat ∧ ¬smallConfig.nkreg ≤ (3 : KId).toNat ∧
    (stateSWith [.readK 4]).input ≠ [] := by
  decide +kernel

theorem witness_NoEffectDependsOnTheGenerator :
    isGenerator Config.unit.gen = true ∧ isGenerator ({ Config.unit with gen := 0xE5 } : Config).gen = true ∧
    ({ Config.unit with gen := 0xE5 } : Config).matrixSpan = Config.unit.matrixSpan := by decide +kernel

/-- The ends of the parameters' ranges, and one value beyond each. -/
theorem witness_ConfigurationsAccepted :
    configOf 1 1 0x03 8 = some ⟨1, 1, 0x03, .s8⟩ ∧ configOf 0 1 0x03 8 = none ∧ configOf 33 8 0x03 16 = none ∧
    configOf 32 0 0x03 16 = none ∧ configOf 32 9 0x03 16 = none ∧ configOf 32 8 0x03 4 = none ∧
    isGenerator 0x02 = false := by decide +kernel

end Sys2Proof.Tests
end

/-! ## Scope: parameters, byte order and termination (`00_scope.md`) -/

namespace Sys2Proof.Machine

/-! ### The matrix of a value byte (R11, R151) -/

/-- The packed matrix depends only on the eight lane bytes from `base` on. -/
theorem packMatrix_congr (b b' : Lane) (base : Fin 9)
    (h : ∀ j : Fin 16, base.val ≤ j.val → j.val < base.val + 8 → b[j] = b'[j]) :
    packMatrix b base = packMatrix b' base := by
  have hbyte (n : Nat) (hn : n < 8) : b[base.val + n] = b'[base.val + n] :=
    h ⟨base.val + n, by omega⟩ (Nat.le_add_right _ _) (Nat.add_lt_add_left hn _)
  have hbase : b[base.val] = b'[base.val] := hbyte 0 (by decide)
  simp only [packMatrix, hbase, hbyte 1 (by decide), hbyte 2 (by decide), hbyte 3 (by decide),
    hbyte 4 (by decide), hbyte 5 (by decide), hbyte 6 (by decide), hbyte 7 (by decide)]

theorem laneMatrix_span16 (c : Config) (b : Lane) (k : Fin 16) (hc : c.matrixSpan = .s16) :
    laneMatrix c b k = packMatrix b 0 := by simp [laneMatrix, hc]

theorem laneMatrix_span8_high (c : Config) (b : Lane) (k : Fin 16) (hc : c.matrixSpan = .s8) (hk : 8 ≤ k.val) :
    laneMatrix c b k = packMatrix b 8 := by simp [laneMatrix, hc, Nat.not_lt.mpr hk]

/-- Value bytes 0..7 have the same matrix for either span. -/
theorem laneMatrix_low (c : Config) (b : Lane) (k : Fin 16) (hk : k.val < 8) :
    laneMatrix c b k = packMatrix b 0 := by
  cases hc : c.matrixSpan with
  | s8 => simp [laneMatrix, hc, hk]
  | s16 => exact laneMatrix_span16 c b k hc

theorem log_congr_gen (c c' : Config) (h : c.gen = c'.gen) : log c = log c' := by
  funext a
  unfold log
  rw [h]

theorem exp_congr_gen (c c' : Config) (h : c.gen = c'.gen) : exp c = exp c' := by
  funext i
  unfold exp
  rw [h]

/-- Of the parameters the table multiplication reads `GEN` only. -/
theorem gfMultiply_congr_gen (c c' : Config) (h : c.gen = c'.gen) (x y : Byte) :
    gfMultiply c x y = gfMultiply c' x y := by
  simp only [gfMultiply, log_congr_gen c c' h, exp_congr_gen c c' h]

theorem laneMul_congr_gen (c c' : Config) (h : c.gen = c'.gen) (a b : Lane) : laneMul c a b = laneMul c' a b := by
  simp only [laneMul, gfMultiply_congr_gen c c' h]

/-- A lane of operand B with different matrices in its two halves: bytes 0..7 are 0x00, bytes 8..15 are 0xFF. -/
def splitMatrixLane : Lane := Vector.ofFn fun k => if k.val < 8 then 0x00 else 0xFF

/-- Value byte 8 is 0x00 under the zero matrix of span 16, and 0xFF under the all-ones matrix of span 8. -/
theorem laneAffine_depends_on_span :
    laneAffine Config.unit (Vector.replicate 16 0x01) splitMatrixLane 0 ≠
      laneAffine { Config.unit with matrixSpan := .s8 } (Vector.replicate 16 0x01) splitMatrixLane 0 := by
  intro h
  have hbyte := congrArg (fun lane : Lane => lane[8]) h
  simp only [laneAffine_getElem] at hbyte
  exact absurd hbyte (by decide +kernel)

/-- Settles O26: each clause reads off which half of the lane is packed; the last is `laneAffine_depends_on_span`. -/
theorem matrixSpanSelectsTheMatrix : Obligations.MatrixSpanSelectsTheMatrix := by
  unfold Obligations.MatrixSpanSelectsTheMatrix
  refine ⟨fun c b b' k hc h => ?_, fun c b b' k hc hk h => ?_, fun c c' b k hk => ?_,
    fun c c' a b h => laneMul_congr_gen c c' h a b,
    ⟨Config.unit, { Config.unit with matrixSpan := .s8 }, _, _, rfl, laneAffine_depends_on_span⟩⟩
  · rw [laneMatrix_span16 c b k hc, laneMatrix_span16 c b' k hc]
    exact packMatrix_congr b b' 0 fun j _ hj => h j (by simpa using hj)
  · rw [laneMatrix_span8_high c b k hc hk, laneMatrix_span8_high c b' k hc hk]
    exact packMatrix_congr b b' 8 fun j hj _ => h j hj
  · rw [laneMatrix_low c b k hk, laneMatrix_low c' b k hk]

/-! ### The byte order of a register (R14, R64) -/

/-- The number of a list of bytes, byte 0 least significant: the fold of `packVReg`, for any list. -/
def packBytes (l : List Byte) : BitVec 512 := l.foldr (fun b acc => (acc <<< 8) ||| b.setWidth 512) 0

theorem packVReg_eq_packBytes (x : VReg) : packVReg x = packBytes x.toList := rfl

@[simp] theorem packBytes_nil : packBytes [] = 0 := rfl

@[simp] theorem packBytes_cons (b : Byte) (l : List Byte) :
    packBytes (b :: l) = (packBytes l <<< 8) ||| b.setWidth 512 := rfl

/-- Bit i of the number is bit i mod 8 of byte i div 8. -/
theorem packBytes_getLsbD (l : List Byte) (i : Nat) (hi : i < 512) :
    (packBytes l).getLsbD i = (l.getD (i / 8) 0).getLsbD (i % 8) := by
  induction l generalizing i with
  | nil => simp
  | cons b l ih =>
    by_cases h8 : i < 8
    · simp [h8, hi, Nat.div_eq_of_lt h8, Nat.mod_eq_of_lt h8]
    · have hdiv : i / 8 = (i - 8) / 8 + 1 := by omega
      have hmod : i % 8 = (i - 8) % 8 := by omega
      have hb : b.getLsbD i = false := BitVec.getLsbD_of_ge b i (by omega)
      rw [hdiv, hmod, List.getD_cons_succ, ← ih (i - 8) (by omega)]
      simp [h8, hi, hb, -BitVec.getLsbD_eq_getElem]

theorem packVReg_getLsbD (x : VReg) (i : Nat) (hi : i < 512) :
    (packVReg x).getLsbD i = (x[i / 8]'(by omega)).getLsbD (i % 8) := by
  have hx : i / 8 < 64 := by omega
  rw [packVReg_eq_packBytes, packBytes_getLsbD _ i hi]
  simp [hx]

@[simp] theorem unpackVReg_getElem (w : BitVec 512) (j : Nat) (hj : j < 64) :
    (unpackVReg w)[j] = w.extractLsb' (8 * j) 8 := by simp [unpackVReg]

theorem packVReg_extract_byte (x : VReg) (j : Nat) (hj : j < 64) :
    (packVReg x).extractLsb' (8 * j) 8 = x[j] := by
  apply BitVec.eq_of_getLsbD_eq
  intro i hi
  have hdiv : (8 * j + i) / 8 = j := by omega
  have hmod : (8 * j + i) % 8 = i := by omega
  rw [BitVec.getLsbD_extractLsb', packVReg_getLsbD x _ (by omega)]
  simp [hdiv, hmod, hi]

theorem unpackVReg_packVReg (x : VReg) : unpackVReg (packVReg x) = x := by
  ext j hj : 1
  rw [unpackVReg_getElem, packVReg_extract_byte]

theorem packVReg_unpackVReg (w : BitVec 512) : packVReg (unpackVReg w) = w := by
  apply BitVec.eq_of_getLsbD_eq
  intro i hi
  rw [packVReg_getLsbD _ i hi, unpackVReg_getElem, BitVec.getLsbD_extractLsb', Nat.div_add_mod]
  simp [Nat.mod_lt]

/-- Settles O27: bit i of a register's number is bit i mod 8 of its byte i div 8, by induction on the bytes. -/
theorem registerPackingIsLittleEndian : Obligations.RegisterPackingIsLittleEndian :=
  ⟨fun x j => packVReg_extract_byte x j.val j.isLt, unpackVReg_packVReg, packVReg_unpackVReg⟩

/-! ### Parameters (R10, R123) -/

theorem acceptable_iff (c : Config) :
    acceptable c = true ↔
      1 ≤ c.nreg ∧ c.nreg ≤ 32 ∧ 1 ≤ c.nkreg ∧ c.nkreg ≤ 8 ∧ isGenerator c.gen = true := by
  simp [acceptable, and_assoc]

theorem isGenerator_0x03 : isGenerator 0x03 = true := by decide +kernel

theorem not_isGenerator_0x02 : isGenerator 0x02 = false := by decide +kernel

theorem acceptable_unit : acceptable Config.unit = true :=
  (acceptable_iff _).mpr ⟨by decide, by decide, by decide, by decide, isGenerator_0x03⟩

/-- On this hardware a command runs as at the parameters that describe it. -/
theorem presentCommandIn_unit (cw : CommandWord) (s : State) :
    presentCommandIn Config.unit cw s = presentCommand cw s := by
  unfold presentCommandIn presentCommand
  cases decode cw with
  | valid i => exact (exec_eq_runCommand i s).symm
  | violation v => rfl

theorem runMoveIn_unit (mv : Move) (s : State) : runMoveIn Config.unit mv s = runMove mv s := by
  by_cases h : ∃ cw, mv = .command cw
  · obtain ⟨cw, rfl⟩ := h
    exact (runMoveIn_command _ cw s).trans (presentCommandIn_unit cw s)
  · exact runMoveIn_environment _ mv s (Move.inRange_unit mv) fun cw hcw => h ⟨cw, hcw⟩

theorem stepIn_nil (c : Config) (s : State) (hc : acceptable c = true) (h : s.input = []) :
    stepIn c s = .refused .noMove := by simp [stepIn, hc, h]

theorem stepIn_unit (s : State) : stepIn Config.unit s = step s := by
  cases h : s.input with
  | nil => rw [stepIn_nil _ s acceptable_unit h, step_nil s h]
  | cons mv rest => rw [stepIn_cons _ s mv rest acceptable_unit h, runMoveIn_unit, step_cons s mv rest h]

/-- A command is refused for an identifier only, never for the configuration. -/
theorem runCommand_ne_configuration (c : Config) (sh : Shape) (s : State) :
    runCommand c sh s ≠ .refused .configuration := by
  unfold runCommand
  split
  · simp
  · split <;> simp

theorem presentCommandIn_ne_configuration (c : Config) (cw : CommandWord) (s : State) :
    presentCommandIn c cw s ≠ .refused .configuration := by
  unfold presentCommandIn
  cases decode cw with
  | valid i => exact runCommand_ne_configuration c i.shape s
  | violation v => simp

/-- A move of this hardware always has a next state. -/
theorem runMove_next (mv : Move) (s : State) : ∃ t, runMove mv s = .next t := by
  obtain ⟨_, _, -, -, h⟩ | ⟨_, _, -, -, h⟩ | ⟨-, h⟩ | ⟨_, _, -, h⟩ | ⟨_, _, -, h⟩ | ⟨-, h⟩ := runMove_cases mv s <;>
    exact ⟨_, h⟩

theorem runMoveIn_ne_configuration (c : Config) (mv : Move) (s : State) :
    runMoveIn c mv s ≠ .refused .configuration := by
  by_cases hcmd : ∃ cw, mv = .command cw
  · obtain ⟨cw, rfl⟩ := hcmd
    rw [runMoveIn_command]
    exact presentCommandIn_ne_configuration c cw s
  · cases hr : mv.inRange c with
    | false => simp [runMoveIn_refused c mv s hr]
    | true =>
      obtain ⟨t, ht⟩ := runMove_next mv s
      simp [runMoveIn_environment c mv s hr fun cw h => hcmd ⟨cw, h⟩, ht]

/-- The parametrised step refuses its configuration exactly when the parameters are not legal. -/
theorem stepIn_configuration_iff (c : Config) (s : State) :
    stepIn c s = .refused .configuration ↔ acceptable c = false := by
  refine ⟨fun h => ?_, stepIn_unacceptable c s⟩
  by_contra hc
  rw [Bool.not_eq_false] at hc
  cases hin : s.input with
  | nil => simp [stepIn_nil c s hc hin] at h
  | cons mv rest =>
    rw [stepIn_cons c s mv rest hc hin] at h
    exact runMoveIn_ne_configuration c mv _ h

/-- Parameters give a configuration exactly when each is in its range, and it then holds them. -/
theorem configOf_eq_some_iff (nreg nkreg : Nat) (gen : Byte) (span : Nat) (c : Config) :
    configOf nreg nkreg gen span = some c ↔
      1 ≤ nreg ∧ nreg ≤ 32 ∧ 1 ≤ nkreg ∧ nkreg ≤ 8 ∧ isGenerator gen = true ∧
        ((span = 16 ∧ c = ⟨nreg, nkreg, gen, .s16⟩) ∨ (span = 8 ∧ c = ⟨nreg, nkreg, gen, .s8⟩)) := by
  unfold configOf
  by_cases h16 : span = 16
  · simp [h16, acceptable_iff, and_assoc, eq_comm (a := c)]
  · by_cases h8 : span = 8
    · simp [h8, acceptable_iff, and_assoc, eq_comm (a := c)]
    · simp [h16, h8]

theorem configOf_unit : configOf 32 8 0x03 16 = some Config.unit :=
  (configOf_eq_some_iff _ _ _ _ _).mpr
    ⟨by decide, by decide, by decide, by decide, isGenerator_0x03, .inl ⟨rfl, rfl⟩⟩

/-- A `GEN` that generates nothing gives no configuration. -/
theorem configOf_not_generator (nreg nkreg : Nat) (gen : Byte) (span : Nat) (h : isGenerator gen = false) :
    configOf nreg nkreg gen span = none := by
  rw [Option.eq_none_iff_forall_ne_some]
  intro c hc
  obtain ⟨-, -, -, -, hgen, -⟩ := (configOf_eq_some_iff _ _ _ _ _).mp hc
  simp [h] at hgen

/-- The printed `EXP` table is the one R115 builds (R117). -/
theorem buildExp_0x03 : buildExp 0x03 = expTable3 := by decide +kernel

/-- The printed `LOG` table is the one R115 builds (R116). -/
theorem buildLog_0x03 : buildLog 0x03 = logTable3 := by decide +kernel

/-- Settles O60: the step by the move it takes, the parameters by their ranges, the tables by evaluation. -/
theorem configurationsAccepted : Obligations.ConfigurationsAccepted := by
  unfold Obligations.ConfigurationsAccepted
  refine ⟨fun s => (stepIn_unit s).symm, configOf_eq_some_iff, fun c s => ?_, configOf_unit,
    configOf_not_generator 32 8 0x02 16 not_isGenerator_0x02, buildExp_0x03, buildLog_0x03⟩
  rw [stepIn_configuration_iff, ← acceptable_iff, Bool.not_eq_true]

/-! ### Termination (R22) -/

/-- Settles O44: on a running unit `exec` is the commit of its destination, which counts the command. -/
theorem everyFormTerminates : Obligations.EveryFormTerminates := by
  unfold Obligations.EveryFormTerminates
  intro i s hs
  exact ⟨s.commit i.shape.dst (newValue i.shape s), by simp [exec_eq, hs], commit_cix s _ _⟩

end Sys2Proof.Machine

/-! ## The state and the ports (`10_state.md`) -/

namespace Sys2Proof.Machine

/-! ### What a step does, by the move it takes (R31, R240) -/

/-- A valid word presented to a running unit is committed, on the state without the move. -/
theorem step_valid (s : State) (cw : CommandWord) (i : Instr) (rest : List Move) (hs : s.halted = false)
    (hin : s.input = .command cw :: rest) (hd : decode cw = .valid i) :
    step s = .next (({ s with input := rest } : State).commit i.shape.dst (newValue i.shape s)) := by
  rw [step_cons s _ rest hin]
  simp [runMove, presentCommand, hd, exec_eq, hs, newValue]

theorem step_violation (s : State) (cw : CommandWord) (c : Violation) (rest : List Move)
    (hin : s.input = .command cw :: rest) (hd : decode cw = .violation c) :
    step s = .next (haltUnit c { s with input := rest }) := by
  rw [step_cons s _ rest hin]
  simp [runMove, presentCommand, hd]

/-- A halted unit takes no command: its move is spent and nothing else changes. -/
theorem step_command_halted (s : State) (cw : CommandWord) (rest : List Move) (hs : s.halted = true)
    (hin : s.input = .command cw :: rest) : step s = .next { s with input := rest } := by
  rw [step_cons s _ rest hin]
  obtain ⟨i, hd⟩ | ⟨c, hd⟩ := decode_total cw <;>
    simp [runMove, presentCommand, hd, exec_eq, haltUnit_halted, hs]

theorem step_reset (s : State) (rest : List Move) (hin : s.input = .reset :: rest) :
    step s = .next (resetUnit { s with input := rest }) := step_cons s _ rest hin

theorem step_writeV (s : State) (r : VId) (x : VReg) (rest : List Move) (hin : s.input = .writeV r x :: rest) :
    step s = .next (({ s with input := rest } : State).setV r x) := step_cons s _ rest hin

theorem step_writeK (s : State) (k : KId) (m : KReg) (rest : List Move) (hin : s.input = .writeK k m :: rest) :
    step s = .next (({ s with input := rest } : State).setK k m) := step_cons s _ rest hin

theorem step_readV (s : State) (r : VId) (rest : List Move) (hin : s.input = .readV r :: rest) :
    step s = .next { s with input := rest } := step_cons s _ rest hin

theorem step_readK (s : State) (k : KId) (rest : List Move) (hin : s.input = .readK k :: rest) :
    step s = .next { s with input := rest } := step_cons s _ rest hin

theorem step_observeStatus (s : State) (rest : List Move) (hin : s.input = .observeStatus :: rest) :
    step s = .next { s with input := rest } := step_cons s _ rest hin

/-- A step that has a next state takes a move. -/
theorem step_next_cons (s t : State) (h : step s = .next t) :
    ∃ mv rest, s.input = mv :: rest ∧ runMove mv { s with input := rest } = .next t := by
  cases hin : s.input with
  | nil => simp [step_nil s hin] at h
  | cons mv rest => exact ⟨mv, rest, rfl, step_cons s mv rest hin ▸ h⟩

/-! ### `STATUS` stays legal (R44, R226) -/

/-- A violation writes its cause, and only to a running unit; while halted `STATUS` stays. -/
theorem haltUnit_status (c : Violation) (s : State) :
    (haltUnit c s).status = s.status ∨ (haltUnit c s).status = haltedStatus c := by
  cases hs : s.halted with
  | true => exact .inl (by rw [haltUnit_halted c s hs])
  | false => exact .inr (by rw [haltUnit_running c s hs])

/-- All that a move can write to `STATUS`: nothing, the cause of a violation, or 0. -/
theorem runMove_status (mv : Move) (s t : State) (h : runMove mv s = .next t) :
    t.status = s.status ∨ (∃ c, t.status = haltedStatus c) ∨ t.status = 0 := by
  obtain ⟨_, i, -, -, hr⟩ | ⟨_, c, -, -, hr⟩ | ⟨-, hr⟩ | ⟨r, x, -, hr⟩ | ⟨k, m, -, hr⟩ | ⟨-, hr⟩ :=
    runMove_cases mv s <;> obtain rfl : _ = t := Host.Outcome.next.inj (hr.symm.trans h)
  · left; split <;> rfl
  · exact (haltUnit_status c s).imp_right fun hc => .inl ⟨c, hc⟩
  · exact .inr (.inr (resetUnit_status s))
  · exact .inl rfl
  · exact .inl rfl
  · exact .inl rfl

/-- Whether `STATUS` is legal is a matter of `STATUS` alone. -/
theorem statusLegal_of_status_eq {s t : State} (h : t.status = s.status) (hs : StatusLegal s) : StatusLegal t := by
  simpa only [StatusLegal, State.halted, State.cause, h] using hs

theorem statusLegal_of_status_zero {t : State} (h : t.status = 0) : StatusLegal t := by
  simp [StatusLegal, State.halted, State.cause, h]

/-- Every cause is one of the codes 1 to 4 (R226). -/
theorem Violation.code_range (c : Violation) : 1 ≤ c.code.toNat ∧ c.code.toNat ≤ 4 := by
  cases c <;> decide

theorem statusLegal_of_haltedStatus {t : State} (c : Violation) (h : t.status = haltedStatus c) : StatusLegal t := by
  have hlegal : StatusLegal { t with status := haltedStatus c } := by
    simpa [StatusLegal] using Violation.code_range c
  exact statusLegal_of_status_eq h hlegal

/-- Settles O54: whatever a move writes to `STATUS` is legal, and what it does not write stays legal. -/
theorem statusStaysLegal : Obligations.StatusStaysLegal := by
  unfold Obligations.StatusStaysLegal
  intro s t hs h
  obtain ⟨mv, rest, -, hrun⟩ := step_next_cons s t h
  obtain hsame | ⟨c, hhalt⟩ | hzero := runMove_status mv _ t hrun
  · exact statusLegal_of_status_eq hsame hs
  · exact statusLegal_of_haltedStatus c hhalt
  · exact statusLegal_of_status_zero hzero

/-- Settles O55: `STATUS` is 0 at every launch state, and the reset state is one. -/
theorem statusLegalAtLaunch : Obligations.StatusLegalAtLaunch :=
  ⟨fun v k => statusLegal_of_status_zero (launch_status v k), statusLegal_of_status_zero (launch_status _ _)⟩

/-! ### The environment's moves (R49) -/

/-- Settles O48: each move is one register update, or none. -/
theorem environmentMoves : Obligations.EnvironmentMoves := by
  unfold Obligations.EnvironmentMoves
  refine ⟨fun s r x rest hin => ?_, fun s k m rest hin => ?_, fun s r rest hin => ?_, fun s k rest hin => ?_,
    fun s rest hin => ?_⟩
  · exact ⟨_, step_writeV s r x rest hin, setV_vreg_self _ r x, fun q hq => setV_vreg_ne _ r x q hq,
      rfl, rfl, rfl, rfl, rfl⟩
  · exact ⟨_, step_writeK s k m rest hin, by simp, fun q hq => by simp [hq], rfl, rfl, rfl, rfl, rfl⟩
  · exact ⟨step_readV s r rest hin, rfl⟩
  · exact ⟨step_readK s k rest hin, rfl⟩
  · exact ⟨step_observeStatus s rest hin, rfl⟩

/-! ### The command index (R41) -/

@[simp] theorem haltUnit_cix (c : Violation) (s : State) : (haltUnit c s).cix = s.cix := by
  unfold haltUnit
  split <;> rfl

/-- The environment's register moves and status observations leave the command index. -/
theorem runMove_environment_cix (mv : Move) (s t : State) (hc : mv.isCommand = false) (hr : mv ≠ .reset)
    (h : runMove mv s = .next t) : t.cix = s.cix := by
  cases mv with
  | command cw => simp [Move.isCommand] at hc
  | reset => exact absurd rfl hr
  | writeV | writeK | readV | readK | observeStatus =>
    obtain rfl := Host.Outcome.next.inj h
    rfl

/-- The value a command writes does not depend on the command index. -/
theorem newValue_withCix (sh : Shape) (s : State) (n : Nat) : newValue sh { s with cix := n } = newValue sh s := rfl

/-- Settles O52: the index after each kind of move, and a commit that uses it for nothing else. -/
theorem commandIndexCounts : Obligations.CommandIndexCounts := by
  unfold Obligations.CommandIndexCounts
  refine ⟨launch_cix, fun s t h => ⟨fun cw rest i hin hd hs => ?_, fun cw rest c hin hd => ?_,
    fun cw rest hin hs => ?_, fun mv rest hin hc hr => ?_, fun rest hin => ?_⟩, fun i s t n hs h => ?_⟩
  · obtain rfl := Host.Outcome.next.inj (h.symm.trans (step_valid s cw i rest hs hin hd))
    exact commit_cix _ _ _
  · obtain rfl := Host.Outcome.next.inj (h.symm.trans (step_violation s cw c rest hin hd))
    exact haltUnit_cix c _
  · obtain rfl := Host.Outcome.next.inj (h.symm.trans (step_command_halted s cw rest hs hin))
    rfl
  · exact runMove_environment_cix mv { s with input := rest } t hc hr (step_cons s mv rest hin ▸ h)
  · obtain rfl := Host.Outcome.next.inj (h.symm.trans (step_reset s rest hin))
    exact resetUnit_cix _
  · have hs' : ({ s with cix := n } : State).halted = false := hs
    rw [exec_eq, hs, if_neg Bool.false_ne_true] at h
    obtain rfl := Host.Outcome.next.inj h
    rw [exec_eq, hs', if_neg Bool.false_ne_true, newValue_withCix]
    rfl

/-! ### What a command reads (R34, R166, D21) -/

/-- The register read interface sees the low bytes only. -/
theorem readLow_congr (nl : Nat) (hnl : nl ≤ 4) {x y : VReg} (h : ∀ j : Fin 64, j.val < 16 * nl → x[j] = y[j]) :
    readLow nl hnl x = readLow nl hnl y := by
  ext j hj : 1
  rw [readLow_getElem, readLow_getElem]
  exact h ⟨j, by omega⟩ hj

/-- The new destination value is a function of the low bytes of the operands, of the mask of a masked form, and of
the old destination of a merging one. -/
theorem execResult_congr (c : Config) (op : Op) (wb : WriteBack) (imm : Byte) {a a' b b' old old' : VReg}
    {m m' : KReg} (ha : ∀ j : Fin 64, j.val < wb.width.bytes → a[j] = a'[j])
    (hb : ∀ j : Fin 64, j.val < wb.width.bytes → b[j] = b'[j]) (hm : wb.maskBit = 1 → m = m')
    (hold : wb = .merge → old = old') :
    execResult c op wb imm a b old m = execResult c op wb imm a' b' old' m' := by
  cases wb with
  | full w =>
    simp only [execResult, readLow_congr w.lanes w.lanes_le ha, readLow_congr w.lanes w.lanes_le hb]
  | merge =>
    obtain rfl := hm rfl
    obtain rfl := hold rfl
    simp only [execResult, readLow_congr 4 (by decide) ha, readLow_congr 4 (by decide) hb]
  | zero =>
    obtain rfl := hm rfl
    simp only [execResult, readLow_congr 4 (by decide) ha, readLow_congr 4 (by decide) hb]

/-- After a command a running unit's destination holds the new value. -/
theorem exec_vreg_dst (i : Instr) (s t : State) (hs : s.halted = false) (h : exec i s = .next t) :
    t.vreg i.shape.dst = newValue i.shape s := by
  rw [exec_eq, hs, if_neg Bool.false_ne_true] at h
  obtain rfl := Host.Outcome.next.inj h
  exact setV_vreg_self _ _ _

/-- Settles O41: both destinations hold the new value, which is a function of what is read. -/
theorem onlyTheReadBytesMatter : Obligations.OnlyTheReadBytesMatter := by
  unfold Obligations.OnlyTheReadBytesMatter
  intro i s s' t t' hs hs' ha hb hm hold h h'
  rw [exec_vreg_dst i s t hs h, exec_vreg_dst i s' t' hs' h']
  exact execResult_congr _ _ _ _ ha hb hm hold

/-! ### The transfers at the ports (R51, R52, R68) -/

theorem readLow_toList (w : Width) (x : VReg) :
    (readLow w.lanes w.lanes_le x).toList = x.toList.take w.bytes := by
  have hw := w.lanes_le
  apply List.ext_getElem
  · simp; omega
  · intro j hj hj'
    simp at hj ⊢

/-- The reads of a command in one list: both operands, the mask of a masked form, the old destination of a merging
one. -/
theorem reads_eq (sh : Shape) (s : State) :
    reads sh s =
      [.rdA sh.srcA sh.wb.width ((s.vreg sh.srcA).toList.take sh.wb.width.bytes),
        .rdB sh.srcB sh.wb.width ((s.vreg sh.srcB).toList.take sh.wb.width.bytes)] ++
      (if sh.wb.maskBit = 1 then [.rdK sh.kid (s.kreg sh.kid)] else []) ++
      (if sh.wb = .merge then [.rdD sh.dst (s.vreg sh.dst)] else []) := by
  unfold reads
  cases hw : sh.wb <;> simp [WriteBack.maskBit, readLow_toList]

theorem transfers_violation (cw : CommandWord) (s : State) (c : Violation) (hd : decode cw = .violation c) :
    transfers cw s = [] := by simp [transfers, hd]

theorem transfers_valid (cw : CommandWord) (s : State) (i : Instr) (hs : s.halted = false)
    (hd : decode cw = .valid i) :
    transfers cw s = reads i.shape s ++ [.wr i.shape.dst (newValue i.shape s)] := by
  simp [transfers, hs, hd, write, newValue]

/-- Settles O57: the transfers are the reads of `reads_eq` and one write, of what the commit puts in the
destination. -/
theorem portTraffic : Obligations.PortTraffic := by
  unfold Obligations.PortTraffic
  intro s cw rest hs hin
  refine ⟨fun c hd => transfers_violation cw s c hd, fun i hd => ⟨_, step_valid s cw i rest hs hin hd, ?_⟩⟩
  rw [transfers_valid cw s i hs hd, reads_eq]
  refine ⟨?_, ?_, ?_, ?_, ?_, ?_⟩
  · split <;> split <;> simp
  · split <;> split <;> simp [Transfer.isWrite]
  · simp
  · simp
  · intro r w l
    simp +contextual
  · intro r w l
    simp +contextual

end Sys2Proof.Machine

/-! ## The step of another generator (`10_state.md` R48, `41_byte_kernels.md` R141) -/

namespace Sys2Proof.Machine

/-! ### The reference product is additive in each factor, commutative and associative (R138) -/

theorem xor_pairs {w : Nat} (p q c d : BitVec w) : (p ^^^ q) ^^^ (c ^^^ d) = (p ^^^ c) ^^^ (q ^^^ d) := by ac_rfl

/-- The step of both folds of R138, an XOR under a gate, is additive in the gate. -/
theorem gatedXor_gate {w : Nat} (p q c : BitVec w) (x y : Bool) :
    (if x ^^ y then (p ^^^ q) ^^^ c else p ^^^ q) =
      (if x then p ^^^ c else p) ^^^ (if y then q ^^^ c else q) := by
  have hcc : (p ^^^ c) ^^^ (q ^^^ c) = p ^^^ q := by rw [← xor_pairs, BitVec.xor_self, BitVec.xor_zero]
  cases x <;> cases y
  · rfl
  · exact BitVec.xor_assoc p q c
  · show (p ^^^ q) ^^^ c = (p ^^^ c) ^^^ q
    ac_rfl
  · exact hcc.symm

/-- It is additive in the value under the gate. -/
theorem gatedXor_value {w : Nat} (p q c d : BitVec w) (x : Bool) :
    (if x then (p ^^^ q) ^^^ (c ^^^ d) else p ^^^ q) =
      (if x then p ^^^ c else p) ^^^ (if x then q ^^^ d else q) := by
  cases x
  · rfl
  · exact xor_pairs p q c d

/-- A fold of additive steps is additive. -/
theorem foldl_xor {ι : Type} {w : Nat} (f g h : BitVec w → ι → BitVec w)
    (hstep : ∀ p q i, h (p ^^^ q) i = f p i ^^^ g q i) (l : List ι) (p q : BitVec w) :
    l.foldl h (p ^^^ q) = l.foldl f p ^^^ l.foldl g q := by
  induction l generalizing p q with
  | nil => rfl
  | cons i l ih => simp only [List.foldl_cons, hstep, ih]

theorem carrylessProduct_xor_left (a a' b : Byte) :
    carrylessProduct (a ^^^ a') b = carrylessProduct a b ^^^ carrylessProduct a' b :=
  foldl_xor _ _ _ (fun p q i => by
    rw [BitVec.setWidth_xor, BitVec.shiftLeft_xor_distrib]
    exact gatedXor_value _ _ _ _ _) _ 0 0

theorem carrylessProduct_xor_right (a b b' : Byte) :
    carrylessProduct a (b ^^^ b') = carrylessProduct a b ^^^ carrylessProduct a b' :=
  foldl_xor _ _ _ (fun p q i => by
    rw [BitVec.getLsbD_xor]
    exact gatedXor_gate _ _ _ _ _) _ 0 0

theorem reducePoly_xor (p q : BitVec 15) : reducePoly (p ^^^ q) = reducePoly p ^^^ reducePoly q :=
  foldl_xor _ _ _ (fun p q i => by
    rw [BitVec.getLsbD_xor]
    exact gatedXor_gate _ _ _ _ _) _ p q

theorem gfMulRef_xor_left (a a' b : Byte) : gfMulRef (a ^^^ a') b = gfMulRef a b ^^^ gfMulRef a' b := by
  simp only [gfMulRef, carrylessProduct_xor_left, reducePoly_xor, BitVec.setWidth_xor]

theorem gfMulRef_xor_right (a b b' : Byte) : gfMulRef a (b ^^^ b') = gfMulRef a b ^^^ gfMulRef a b' := by
  simp only [gfMulRef, carrylessProduct_xor_right, reducePoly_xor, BitVec.setWidth_xor]

/-- The eight bytes with one bit set. -/
def bitBytes : List Byte := (List.range 8).map (BitVec.twoPow 8)

/-- A map of bytes that XORs images. -/
def XorAdditive (f : Byte → Byte) : Prop := ∀ a b, f (a ^^^ b) = f a ^^^ f b

theorem XorAdditive.map_zero {f : Byte → Byte} (hf : XorAdditive f) : f 0 = 0 := by
  have h : f 0 = f 0 ^^^ f 0 := hf 0 0
  rw [h, BitVec.xor_self]
  rfl

theorem byte_eq_xor_bitBytes (a : Byte) : (bitBytes.map fun e => a &&& e).foldr (· ^^^ ·) 0 = a := by
  revert a
  decide +kernel

theorem and_bitByte (a e : Byte) (he : e ∈ bitBytes) : a &&& e = 0 ∨ a &&& e = e := by
  obtain ⟨i, -, rfl⟩ := List.mem_map.mp he
  rw [BitVec.and_twoPow]
  split
  · exact .inr rfl
  · exact .inl rfl

/-- An additive map is determined by its values on the bytes with one bit set. -/
theorem XorAdditive.ext {f g : Byte → Byte} (hf : XorAdditive f) (hg : XorAdditive g) (h : ∀ e ∈ bitBytes, f e = g e)
    (a : Byte) : f a = g a := by
  have hbit : ∀ e ∈ bitBytes, f (a &&& e) = g (a &&& e) := fun e he => by
    obtain hz | hz := and_bitByte a e he
    · rw [hz, hf.map_zero, hg.map_zero]
    · rw [hz, h e he]
  have hsum (l : List Byte) (hl : ∀ e ∈ l, e ∈ bitBytes) :
      f ((l.map fun e => a &&& e).foldr (· ^^^ ·) 0) = g ((l.map fun e => a &&& e).foldr (· ^^^ ·) 0) := by
    induction l with
    | nil => exact hf.map_zero.trans hg.map_zero.symm
    | cons e l ih =>
      rw [List.map_cons, List.foldr_cons, hf, hg, hbit e (hl e List.mem_cons_self),
        ih fun e' he' => hl e' (List.mem_cons_of_mem e he')]
  rw [← byte_eq_xor_bitBytes a]
  exact hsum bitBytes fun _ he => he

theorem gfMulRef_additive_left (b : Byte) : XorAdditive fun a => gfMulRef a b := fun a a' => gfMulRef_xor_left a a' b

theorem gfMulRef_additive_right (a : Byte) : XorAdditive (gfMulRef a) := gfMulRef_xor_right a

theorem gfMulRef_zero_left (b : Byte) : gfMulRef 0 b = 0 := (gfMulRef_additive_left b).map_zero

theorem gfMulRef_zero_right (a : Byte) : gfMulRef a 0 = 0 := (gfMulRef_additive_right a).map_zero

theorem gfMulRef_one_right (a : Byte) : gfMulRef a 1 = a :=
  (gfMulRef_additive_left 1).ext (g := id) (fun _ _ => rfl) (by decide +kernel) a

theorem gfMulRef_comm (a b : Byte) : gfMulRef a b = gfMulRef b a :=
  (gfMulRef_additive_left b).ext (gfMulRef_additive_right b)
    (fun e he => (gfMulRef_additive_right e).ext (gfMulRef_additive_left e)
      ((by decide +kernel : ∀ e ∈ bitBytes, ∀ e' ∈ bitBytes, gfMulRef e e' = gfMulRef e' e) e he) b) a

theorem gfMulRef_one_left (b : Byte) : gfMulRef 1 b = b := by rw [gfMulRef_comm, gfMulRef_one_right]

/-- The factor `a` associates with every two others. -/
def LeftAssociates (a : Byte) : Prop := ∀ b c, gfMulRef (gfMulRef a b) c = gfMulRef a (gfMulRef b c)

theorem leftAssociates_one : LeftAssociates 1 := fun b c => by rw [gfMulRef_one_left, gfMulRef_one_left]

theorem leftAssociates_two : LeftAssociates 2 := by
  intro b c
  refine XorAdditive.ext (f := fun b => gfMulRef (gfMulRef 2 b) c) (g := fun b => gfMulRef 2 (gfMulRef b c))
    (fun x y => by simp only [gfMulRef_xor_left, gfMulRef_xor_right])
    (fun x y => by simp only [gfMulRef_xor_left, gfMulRef_xor_right]) (fun e he => ?_) b
  exact XorAdditive.ext (f := gfMulRef (gfMulRef 2 e)) (g := fun c => gfMulRef 2 (gfMulRef e c))
    (gfMulRef_additive_right _) (fun x y => by simp only [gfMulRef_xor_right])
    ((by decide +kernel : ∀ e ∈ bitBytes, ∀ e' ∈ bitBytes,
      gfMulRef (gfMulRef 2 e) e' = gfMulRef 2 (gfMulRef e e')) e he) c

theorem LeftAssociates.mul {a a' : Byte} (ha : LeftAssociates a) (ha' : LeftAssociates a') :
    LeftAssociates (gfMulRef a a') := fun b c => by rw [ha, ha, ha, ha']

theorem LeftAssociates.powersFrom {g : Byte} (hg : LeftAssociates g) (n : Nat) (p : Byte) (hp : LeftAssociates p) :
    ∀ e ∈ powersFrom g n p, LeftAssociates e := by
  induction n generalizing p with
  | zero => exact fun e he => absurd he List.not_mem_nil
  | succ n ih =>
    intro e he
    obtain rfl | he := List.mem_cons.mp he
    · exact hp
    · exact ih _ (hp.mul hg) e he

/-- The bytes with one bit set are the first eight powers of 2. -/
theorem bitBytes_eq_powersFrom : bitBytes = powersFrom 2 8 1 := by decide +kernel

/-- Associativity: 2 associates, so its powers do, and every byte is a sum of those. -/
theorem gfMulRef_assoc (a b c : Byte) : gfMulRef (gfMulRef a b) c = gfMulRef a (gfMulRef b c) :=
  XorAdditive.ext (f := fun a => gfMulRef (gfMulRef a b) c) (g := fun a => gfMulRef a (gfMulRef b c))
    (fun x y => by simp only [gfMulRef_xor_left]) (gfMulRef_additive_left _)
    (fun e he => leftAssociates_two.powersFrom 8 1 leftAssociates_one e (bitBytes_eq_powersFrom ▸ he) b c) a

/-! ### The powers of a generator (R114, R115) -/

/-- The `i`-th power of a byte. -/
def gfPow (g : Byte) : Nat → Byte
  | 0 => 1
  | i + 1 => gfMulRef (gfPow g i) g

theorem gfPow_add (g : Byte) (i j : Nat) : gfPow g (i + j) = gfMulRef (gfPow g i) (gfPow g j) := by
  induction j with
  | zero => exact (gfMulRef_one_right _).symm
  | succ j ih => rw [← Nat.add_assoc, gfPow, ih, gfMulRef_assoc]; rfl

@[simp] theorem powersFrom_length (g : Byte) (n : Nat) (p : Byte) : (powersFrom g n p).length = n := by
  induction n generalizing p with
  | zero => rfl
  | succ n ih => rw [powersFrom, List.length_cons, ih]

/-- The table of powers holds the powers. -/
theorem powersFrom_getElem (g : Byte) (n m i : Nat) (h : i < (powersFrom g n (gfPow g m)).length) :
    (powersFrom g n (gfPow g m))[i] = gfPow g (m + i) := by
  induction n generalizing m i with
  | zero => exact absurd h (Nat.not_lt_zero _)
  | succ n ih =>
    cases i with
    | zero => rfl
    | succ i =>
      have hi := ih (m + 1) i (Nat.lt_of_succ_lt_succ h)
      rw [show m + (i + 1) = m + 1 + i by omega, ← hi]
      rfl

/-- An order found from the `i`-th power on is the first exponent whose power is 1. -/
theorem orderFrom_spec (g : Byte) (n i : Nat) (h : orderFrom g n (gfPow g i) i ≠ 0) :
    gfPow g (orderFrom g n (gfPow g i) i) = 1 ∧
      ∀ j, i ≤ j → j < orderFrom g n (gfPow g i) i → gfPow g j ≠ 1 := by
  induction n generalizing i with
  | zero => exact absurd rfl h
  | succ n ih =>
    by_cases h1 : gfPow g i = 1
    · rw [orderFrom, if_pos h1]
      exact ⟨h1, fun j hij hji => absurd hji (Nat.not_lt.mpr hij)⟩
    · rw [orderFrom, if_neg h1] at h ⊢
      obtain ⟨hone, hfirst⟩ := ih (i + 1) h
      refine ⟨hone, fun j hij hj => ?_⟩
      obtain rfl | hlt := Nat.eq_or_lt_of_le hij
      · exact h1
      · exact hfirst j hlt hj

section Generator

variable {g : Byte} (hg : isGenerator g = true)

include hg

theorem mulOrder_of_isGenerator : mulOrder g = 255 := of_decide_eq_true hg

/-- A generator's powers return to 1 at 255 and not before (R114). -/
theorem gfPow_generator : gfPow g 255 = 1 ∧ ∀ j, 1 ≤ j → j < 255 → gfPow g j ≠ 1 := by
  have horder : orderFrom g 255 (gfPow g 1) 1 = 255 := by
    rw [gfPow, gfPow, gfMulRef_one_left]
    exact mulOrder_of_isGenerator hg
  have h := orderFrom_spec g 255 1 (by rw [horder]; decide)
  rwa [horder] at h

theorem gfPow_generator_ne_zero (i : Nat) (hi : i ≤ 255) : gfPow g i ≠ 0 := by
  intro h
  have h255 := gfPow_add g i (255 - i)
  rw [Nat.add_sub_cancel' hi, (gfPow_generator hg).1, h, gfMulRef_zero_left] at h255
  exact absurd h255 (by decide)

/-- Two exponents below 255 with one power are equal: else their difference would give 1. -/
theorem gfPow_generator_lt_ne (i j : Nat) (hij : i < j) (hj : j < 255) : gfPow g i ≠ gfPow g j := by
  intro h
  obtain ⟨h255, hfirst⟩ := gfPow_generator hg
  have hi := gfPow_add g i (255 - j)
  rw [h, ← gfPow_add, Nat.add_sub_cancel' (Nat.le_of_lt hj), h255] at hi
  exact hfirst (i + (255 - j)) (by omega) (by omega) hi

theorem gfPow_generator_inj (i j : Nat) (hi : i < 255) (hj : j < 255) (h : gfPow g i = gfPow g j) : i = j := by
  obtain hlt | heq | hgt := Nat.lt_trichotomy i j
  · exact absurd h (gfPow_generator_lt_ne hg i j hlt hj)
  · exact heq
  · exact absurd h.symm (gfPow_generator_lt_ne hg j i hgt hi)

/-- Every byte but 0 is a power of a generator: the 255 powers are distinct and none is 0. -/
theorem exists_gfPow_eq (a : Byte) (ha : a ≠ 0) : ∃ i, i < 255 ∧ gfPow g i = a := by
  have hinj : Set.InjOn (fun i => (gfPow g i).toNat) (Finset.range 255) := fun i hi j hj h =>
    gfPow_generator_inj hg i j (Finset.mem_range.mp hi) (Finset.mem_range.mp hj) (BitVec.eq_of_toNat_eq h)
  have hne (b : Byte) (hb : b ≠ 0) : b.toNat ∈ Finset.Ico 1 256 :=
    Finset.mem_Ico.mpr ⟨Nat.pos_of_ne_zero fun h => hb (BitVec.eq_of_toNat_eq h), b.isLt⟩
  have hsub : (Finset.range 255).image (fun i => (gfPow g i).toNat) ⊆ Finset.Ico 1 256 :=
    Finset.image_subset_iff.mpr fun i hi =>
      hne _ (gfPow_generator_ne_zero hg i (Nat.le_of_lt (Finset.mem_range.mp hi)))
  have himage := Finset.eq_of_subset_of_card_le hsub (by
    rw [Finset.card_image_of_injOn hinj, Finset.card_range, Nat.card_Ico])
  obtain ⟨i, hi, h⟩ := Finset.mem_image.mp (himage ▸ hne a ha)
  exact ⟨i, Finset.mem_range.mp hi, BitVec.eq_of_toNat_eq h⟩

end Generator

/-! ### The tables of a generator, and the product they give (R115, R136, R141) -/

theorem exp_eq_buildExp (c : Config) (i : Nat) : exp c i = (buildExp c.gen).getD i 0 := by
  unfold exp
  split
  · rw [‹c.gen = 0x03›, buildExp_0x03]
  · rfl

theorem log_eq_buildLog (c : Config) (a : Byte) : log c a = ((buildLog c.gen).getD a.toNat 0).toNat := by
  unfold log
  split
  · rw [‹c.gen = 0x03›, buildLog_0x03]
  · rfl

/-- `EXP` holds the powers of the generator. -/
theorem exp_eq_gfPow (c : Config) (i : Nat) (hi : i < 256) : exp c i = gfPow c.gen i := by
  have hlen : i < (powersFrom c.gen 256 (gfPow c.gen 0)).length := by rwa [powersFrom_length]
  rw [exp_eq_buildExp, show buildExp c.gen = powersFrom c.gen 256 (gfPow c.gen 0) from rfl,
    List.getD_eq_getElem _ _ hlen, powersFrom_getElem, Nat.zero_add]

/-- The first place of a power in the table of a generator's powers is its exponent. -/
theorem idxOf_gfPow {g : Byte} (hg : isGenerator g = true) (i : Nat) (hi : i < 255) :
    (powersFrom g 255 1).idxOf (gfPow g i) = i := by
  have hget (j : Nat) (hj : j < (powersFrom g 255 1).length) : (powersFrom g 255 1)[j] = gfPow g j := by
    have h := powersFrom_getElem g 255 0 j hj
    rwa [Nat.zero_add] at h
  have hmem : gfPow g i ∈ powersFrom g 255 1 :=
    List.mem_iff_getElem.mpr ⟨i, by rwa [powersFrom_length], hget i _⟩
  have hlt := List.idxOf_lt_length_of_mem hmem
  have hpow : gfPow g ((powersFrom g 255 1).idxOf (gfPow g i)) = gfPow g i := by
    rw [← hget _ hlt, List.getElem_idxOf]
  rw [powersFrom_length] at hlt
  exact gfPow_generator_inj hg _ i hlt hi hpow

/-- The built `LOG` holds the first place of a nonzero byte among the generator's powers. -/
theorem buildLog_getD (g a : Byte) (ha : a ≠ 0) :
    (buildLog g).getD a.toNat 0 = BitVec.ofNat 8 ((powersFrom g 255 1).idxOf a) := by
  have hne : a.toNat ≠ 0 := fun h => ha (BitVec.eq_of_toNat_eq h)
  have hlt : a.toNat < 256 := a.isLt
  simp [buildLog, hlt, hne]

/-- `LOG` of a power of the generator is its exponent. -/
theorem log_gfPow (c : Config) (hg : isGenerator c.gen = true) (i : Nat) (hi : i < 255) :
    log c (gfPow c.gen i) = i := by
  rw [log_eq_buildLog, buildLog_getD _ _ (gfPow_generator_ne_zero hg i (Nat.le_of_lt hi)), idxOf_gfPow hg i hi,
    BitVec.toNat_ofNat, Nat.mod_eq_of_lt (by omega)]

/-- With the tables of any generator the product is the reference product (R141): the logarithms add, and 255 of them
are none. -/
theorem gfMultiply_eq_gfMulRef (c : Config) (hg : isGenerator c.gen = true) (a b : Byte) :
    gfMultiply c a b = gfMulRef a b := by
  by_cases ha : a = 0
  · rw [ha, gfMulRef_zero_left, gfMultiply, if_pos (.inl rfl)]
  by_cases hb : b = 0
  · rw [hb, gfMulRef_zero_right, gfMultiply, if_pos (.inr rfl)]
  obtain ⟨i, hi, rfl⟩ := exists_gfPow_eq hg a ha
  obtain ⟨j, hj, rfl⟩ := exists_gfPow_eq hg b hb
  simp only [gfMultiply, ha, hb, or_self, if_false, log_gfPow c hg _ hi, log_gfPow c hg _ hj]
  rw [← gfPow_add]
  split
  · have hsum := gfPow_add c.gen (i + j - 255) 255
    rw [(gfPow_generator hg).1, gfMulRef_one_right, Nat.sub_add_cancel (by omega)] at hsum
    rw [exp_eq_gfPow c _ (by omega), hsum]
  · exact exp_eq_gfPow c _ (by omega)

/-! ### No step depends on `GEN` (R48, R141) -/

section OtherGenerator

/-- Two configurations with a generator each and all other parameters equal. -/
structure SameButGenerator (c c' : Config) : Prop where
  gen : isGenerator c.gen = true
  gen' : isGenerator c'.gen = true
  span : c'.matrixSpan = c.matrixSpan
  nreg : c'.nreg = c.nreg
  nkreg : c'.nkreg = c.nkreg

variable {c c' : Config} (h : SameButGenerator c c')

include h

theorem SameButGenerator.gfMultiply_eq (a b : Byte) : gfMultiply c a b = gfMultiply c' a b := by
  rw [gfMultiply_eq_gfMulRef c h.gen, gfMultiply_eq_gfMulRef c' h.gen']

theorem SameButGenerator.laneMatrix_eq (b : Lane) (k : Fin 16) : laneMatrix c b k = laneMatrix c' b k := by
  simp only [laneMatrix, h.span]

theorem SameButGenerator.laneOp_eq (op : Op) (imm : Byte) : laneOp c op imm = laneOp c' op imm := by
  funext a b
  cases op with
  | affine => simp only [laneOp, laneAffine, h.laneMatrix_eq]
  | affineInv => simp only [laneOp, laneAffineInv, h.laneMatrix_eq]
  | mul => simp only [laneOp, laneMul, h.gfMultiply_eq]

theorem SameButGenerator.execResult_eq (op : Op) (wb : WriteBack) (imm : Byte) (a b old : VReg) (m : KReg) :
    execResult c op wb imm a b old m = execResult c' op wb imm a b old m := by
  cases wb <;> simp only [execResult, computed, h.laneOp_eq]

theorem SameButGenerator.inRange_eq (sh : Shape) : sh.inRange c = sh.inRange c' := by
  simp only [Shape.inRange, Shape.dstInRange, Shape.srcAInRange, Shape.srcBInRange, Shape.kidInRange, h.nreg, h.nkreg]

theorem SameButGenerator.runCommand_eq (sh : Shape) (s : State) : runCommand c sh s = runCommand c' sh s := by
  simp only [runCommand, h.inRange_eq, h.execResult_eq]

theorem SameButGenerator.presentCommandIn_eq (cw : CommandWord) (s : State) :
    presentCommandIn c cw s = presentCommandIn c' cw s := by
  simp only [presentCommandIn, h.runCommand_eq]

theorem SameButGenerator.moveInRange_eq (mv : Move) : mv.inRange c = mv.inRange c' := by
  cases mv <;> simp only [Move.inRange, h.nreg, h.nkreg]

theorem SameButGenerator.runMoveIn_eq (mv : Move) (s : State) : runMoveIn c mv s = runMoveIn c' mv s := by
  simp only [runMoveIn, h.moveInRange_eq, h.presentCommandIn_eq]

theorem SameButGenerator.acceptable_eq : acceptable c = acceptable c' := by
  simp only [acceptable, h.nreg, h.nkreg, h.gen, h.gen']

theorem SameButGenerator.stepIn_eq (s : State) : stepIn c s = stepIn c' s := by
  simp only [stepIn, h.acceptable_eq, h.runMoveIn_eq]

end OtherGenerator

/-- Settles O59: a step uses `GEN` in its products only, and each is the reference product. -/
theorem noEffectDependsOnTheGenerator : Obligations.NoEffectDependsOnTheGenerator := by
  unfold Obligations.NoEffectDependsOnTheGenerator
  intro c c' s hg hg' hspan hnreg hnkreg
  exact SameButGenerator.stepIn_eq ⟨hg, hg', hspan, hnreg, hnkreg⟩ s

end Sys2Proof.Machine

/-! ## Repeated commands and identifiers (`20_memory.md`) -/

namespace Sys2Proof.Machine

/-! ### Repeating a command (R70) -/

/-- A merged byte is merged into again without effect: it is the result's byte or the old one both times. -/
theorem mergeMasked_idem (m : KReg) (res old : VReg) :
    mergeMasked m res (mergeMasked m res old) = mergeMasked m res old := by
  ext j hj : 1
  rw [mergeMasked_getElem, mergeMasked_getElem]
  split <;> rfl

/-- With the operands and the mask kept, the new destination value is a fixed point in the old one. -/
theorem execResult_idem (c : Config) (op : Op) (wb : WriteBack) (imm : Byte) (a b old : VReg) (m : KReg) :
    execResult c op wb imm a b (execResult c op wb imm a b old m) m = execResult c op wb imm a b old m := by
  cases wb with
  | full | zero => simp only [execResult]
  | merge => exact mergeMasked_idem m _ old

/-- A command that overwrites none of its sources computes the same value once more. -/
theorem newValue_commit (sh : Shape) (s : State) (ha : sh.dst ≠ sh.srcA) (hb : sh.dst ≠ sh.srcB) :
    newValue sh (s.commit sh.dst (newValue sh s)) = newValue sh s := by
  simp only [newValue, commit_vreg, commit_kreg, if_neg ha.symm, if_neg hb.symm, if_true]
  exact execResult_idem _ _ _ _ _ _ _ _

/-- Settles O42: the second execution writes the value that the destination already holds. -/
theorem repeatingACommand : Obligations.RepeatingACommand := by
  unfold Obligations.RepeatingACommand
  intro i s t u ha hb hst htu
  rw [exec_eq] at hst htu
  obtain rfl := Host.Outcome.next.inj hst
  obtain rfl := Host.Outcome.next.inj htu
  cases hs : s.halted with
  | true => simp [hs]
  | false => simp [hs, newValue_commit i.shape s ha hb]

/-! ### Identifiers out of range (R62) -/

/-- Only a masked form names a mask register. -/
theorem kidInRange_eq_false_iff (c : Config) (sh : Shape) :
    sh.kidInRange c = false ↔ sh.wb.maskBit = 1 ∧ c.nkreg ≤ sh.kid.toNat := by
  cases hw : sh.wb <;> simp [Shape.kidInRange, WriteBack.maskBit, hw]

theorem inRange_eq_false_iff (c : Config) (sh : Shape) :
    sh.inRange c = false ↔
      c.nreg ≤ sh.dst.toNat ∨ c.nreg ≤ sh.srcA.toNat ∨ c.nreg ≤ sh.srcB.toNat ∨
        (sh.wb.maskBit = 1 ∧ c.nkreg ≤ sh.kid.toNat) := by
  simp only [Shape.inRange, Shape.dstInRange, Shape.srcAInRange, Shape.srcBInRange, Bool.and_eq_false_iff,
    decide_eq_false_iff_not, Nat.not_lt, kidInRange_eq_false_iff, or_assoc]

/-- A running unit refuses a command exactly when an identifier is out of range. -/
theorem runCommand_refused_iff (c : Config) (sh : Shape) (s : State) (hs : s.halted = false) :
    runCommand c sh s = .refused .identifierOutOfRange ↔ sh.inRange c = false := by
  cases hr : sh.inRange c <;> simp [runCommand, hs, hr]

/-- The moves out of range are the four that name a register beyond the counts of `c`. -/
theorem Move.inRange_eq_false_iff (c : Config) (mv : Move) :
    mv.inRange c = false ↔
      (∃ r x, mv = .writeV r x ∧ c.nreg ≤ r.toNat) ∨ (∃ r, mv = .readV r ∧ c.nreg ≤ r.toNat) ∨
      (∃ k m, mv = .writeK k m ∧ c.nkreg ≤ k.toNat) ∨ ∃ k, mv = .readK k ∧ c.nkreg ≤ k.toNat := by
  cases mv <;> simp [Move.inRange]

/-- A move other than a command is refused exactly when it names a register beyond the counts of `c`. -/
theorem runMoveIn_refused_iff (c : Config) (mv : Move) (s : State) (hm : mv.isCommand = false) :
    runMoveIn c mv s = .refused .identifierOutOfRange ↔ mv.inRange c = false := by
  refine ⟨fun h => ?_, runMoveIn_refused c mv s⟩
  by_contra hr
  rw [Bool.not_eq_false] at hr
  obtain ⟨t, ht⟩ := runMove_next mv s
  rw [runMoveIn_environment c mv s hr fun cw hcw => by simp [hcw, Move.isCommand] at hm, ht] at h
  exact nomatch h

theorem exec_ne_refused (i : Instr) (s : State) (r : Refusal) : exec i s ≠ .refused r := by
  rw [exec_eq]
  exact nofun

theorem step_ne_refused (s : State) (r : Refusal) (h : s.input ≠ []) : step s ≠ .refused r := by
  obtain ⟨mv, rest, hin⟩ := List.exists_cons_of_ne_nil h
  obtain ⟨t, ht⟩ := runMove_next mv { s with input := rest }
  rw [step_cons s mv rest hin, ht]
  exact nofun

/-- Settles O58: a refusal is an identifier out of range, which neither `exec` nor `step` ever has. -/
theorem identifiersOutOfRange : Obligations.IdentifiersOutOfRange := by
  unfold Obligations.IdentifiersOutOfRange
  refine ⟨fun c i s hs => ?_, fun c s mv rest hc hin hm => ?_, exec_ne_refused, step_ne_refused⟩
  · rw [runCommand_refused_iff c i.shape s hs, inRange_eq_false_iff]
  · rw [stepIn_cons c s mv rest hc hin, runMoveIn_refused_iff c mv _ hm, Move.inRange_eq_false_iff]

end Sys2Proof.Machine

/-! ## Encoding (`30_encoding.md`) -/

namespace Sys2Proof

open Claims

/-! ### The nine fields of a command word (R82, R83) -/

theorem toNat_append_eq_add {m n : Nat} (x : BitVec m) (y : BitVec n) : (x ++ y).toNat = x.toNat * 2 ^ n + y.toNat := by
  rw [BitVec.toNat_append, ← Nat.shiftLeft_add_eq_or_of_lt y.isLt, Nat.shiftLeft_eq]

/-- The packed word as a number: every field at its place value. -/
theorem Fields.pack_toNat (f : Fields) :
    f.pack.toNat = f.op.toNat + 4 * f.vl.toNat + 16 * f.m.toNat + 32 * f.z.toNat + 64 * f.kid.toNat +
      512 * f.dst.toNat + 16384 * f.srcA.toNat + 524288 * f.srcB.toNat + 16777216 * f.imm.toNat := by
  have h : f.pack.toNat = (f.imm ++ f.srcB ++ f.srcA ++ f.dst ++ f.kid ++ f.z ++ f.m ++ f.vl ++ f.op).toNat := rfl
  simp only [h, toNat_append_eq_add]
  omega

section
variable (cw : CommandWord)

@[simp] theorem ofWord_op_toNat : (Fields.ofWord cw).op.toNat = opOf cw := by
  simp [Fields.ofWord, opOf]

@[simp] theorem ofWord_vl_toNat : (Fields.ofWord cw).vl.toNat = vlOf cw := by
  simp [Fields.ofWord, vlOf, Nat.shiftRight_eq_div_pow]

@[simp] theorem ofWord_m_toNat : (Fields.ofWord cw).m.toNat = mOf cw := by
  simp [Fields.ofWord, mOf, Nat.shiftRight_eq_div_pow]

@[simp] theorem ofWord_z_toNat : (Fields.ofWord cw).z.toNat = zOf cw := by
  simp [Fields.ofWord, zOf, Nat.shiftRight_eq_div_pow]

@[simp] theorem ofWord_kid_toNat : (Fields.ofWord cw).kid.toNat = kidOf cw := by
  simp [Fields.ofWord, kidOf, Nat.shiftRight_eq_div_pow]

@[simp] theorem ofWord_dst_toNat : (Fields.ofWord cw).dst.toNat = dstOf cw := by
  simp [Fields.ofWord, dstOf, Nat.shiftRight_eq_div_pow]

@[simp] theorem ofWord_srcA_toNat : (Fields.ofWord cw).srcA.toNat = srcAOf cw := by
  simp [Fields.ofWord, srcAOf, Nat.shiftRight_eq_div_pow]

@[simp] theorem ofWord_srcB_toNat : (Fields.ofWord cw).srcB.toNat = srcBOf cw := by
  simp [Fields.ofWord, srcBOf, Nat.shiftRight_eq_div_pow]

@[simp] theorem ofWord_imm_toNat : (Fields.ofWord cw).imm.toNat = immOf cw := by
  have h : cw.toNat / 16777216 < 256 := by omega
  simp [Fields.ofWord, immOf, Nat.shiftRight_eq_div_pow, Nat.mod_eq_of_lt h]

/-- The nine fields cover the word: no bit is lost. -/
theorem Fields.pack_ofWord : (Fields.ofWord cw).pack = cw := by
  apply BitVec.eq_of_toNat_eq
  rw [pack_toNat]
  simp only [ofWord_op_toNat, ofWord_vl_toNat, ofWord_m_toNat, ofWord_z_toNat, ofWord_kid_toNat, ofWord_dst_toNat,
    ofWord_srcA_toNat, ofWord_srcB_toNat, ofWord_imm_toNat, opOf, vlOf, mOf, zOf, kidOf, dstOf, srcAOf, srcBOf, immOf]
  omega

end

/-- The nine fields do not overlap: each is read back as it was put in. -/
theorem Fields.ofWord_pack (f : Fields) : Fields.ofWord f.pack = f := by
  obtain ⟨op, vl, m, z, kid, dst, srcA, srcB, imm⟩ := f
  simp only [ofWord, mk.injEq]
  refine ⟨?_, ?_, ?_, ?_, ?_, ?_, ?_, ?_, ?_⟩ <;> apply BitVec.eq_of_toNat_eq <;>
    rw [BitVec.extractLsb'_toNat, pack_toNat, Nat.shiftRight_eq_div_pow] <;> dsimp <;> omega

/-- A command word and its fields are the same data. -/
def wordEquiv : CommandWord ≃ Fields where
  toFun := Fields.ofWord
  invFun := Fields.pack
  left_inv := Fields.pack_ofWord
  right_inv := Fields.ofWord_pack

/-! ### The checks, in words of the fields (R89, R92) -/

/-- The fields of a valid word: none of the reserved code points of R92. -/
theorem Fields.check_eq_none_iff (f : Fields) :
    f.check = none ↔ (f.op ≠ 3 ∧ (f.op = 2 → f.imm = 0)) ∧
      f.vl ≠ 3 ∧ (f.m = 1 → f.vl = 2) ∧ (f.m = 0 → f.z = 0 ∧ f.kid = 0) := by
  have hz : f.z = 1 ↔ ¬f.z = 0 := by bv_omega
  simp only [check, hz, ite_eq_iff, reduceCtorEq, and_false, false_or, and_true]
  tauto

/-- The checks of R89 on the fields as numbers. -/
theorem check_ofWord (cw : CommandWord) :
    (Fields.ofWord cw).check =
      if opOf cw = 3 then some .opcode
      else if vlOf cw = 3 then some .width
      else if mOf cw = 1 ∧ vlOf cw ≠ 2 then some .maskWidth
      else if mOf cw = 0 ∧ (zOf cw = 1 ∨ kidOf cw ≠ 0) then some .reserved
      else if opOf cw = 2 ∧ immOf cw ≠ 0 then some .reserved
      else none := by
  simp [Fields.check, BitVec.toNat_eq]

/-! ### Forms and their fields (R92, R93) -/

/-- The encoder emits no reserved code point. -/
theorem Instr.check_fields (i : Instr) : i.shape.fields.check = none :=
  match i with
  | .gfaffine128 .. => Laws.EncodeLegal.gfaffine128 ..
  | .gfaffine256 .. => Laws.EncodeLegal.gfaffine256 ..
  | .gfaffine512 .. => Laws.EncodeLegal.gfaffine512 ..
  | .gfaffine512k .. => Laws.EncodeLegal.gfaffine512k ..
  | .gfaffine512kz .. => Laws.EncodeLegal.gfaffine512kz ..
  | .gfaffineinv128 .. => Laws.EncodeLegal.gfaffineinv128 ..
  | .gfaffineinv256 .. => Laws.EncodeLegal.gfaffineinv256 ..
  | .gfaffineinv512 .. => Laws.EncodeLegal.gfaffineinv512 ..
  | .gfaffineinv512k .. => Laws.EncodeLegal.gfaffineinv512k ..
  | .gfaffineinv512kz .. => Laws.EncodeLegal.gfaffineinv512kz ..
  | .gfmul128 .. => Laws.EncodeLegal.gfmul128 ..
  | .gfmul256 .. => Laws.EncodeLegal.gfmul256 ..
  | .gfmul512 .. => Laws.EncodeLegal.gfmul512 ..
  | .gfmul512k .. => Laws.EncodeLegal.gfmul512k ..
  | .gfmul512kz .. => Laws.EncodeLegal.gfmul512kz ..

/-- The form of an instruction's fields is the instruction. -/
theorem Instr.form_fields (i : Instr) : i.shape.fields.form = i := by cases i <;> rfl

/-- An `OP` field other than 3 is the code of an operation. -/
theorem Op.exists_code (x : BitVec 2) (h : x ≠ 3) : ∃ o : Op, x = o.code := by
  obtain rfl | rfl | rfl : x = 0 ∨ x = 1 ∨ x = 2 := by bv_omega
  · exact ⟨.affine, rfl⟩
  · exact ⟨.affineInv, rfl⟩
  · exact ⟨.mul, rfl⟩

/-- A `VL` field other than 3 is the code of a width. -/
theorem Width.exists_code (x : BitVec 2) (h : x ≠ 3) : ∃ w : Width, x = w.code := by
  obtain rfl | rfl | rfl : x = 0 ∨ x = 1 ∨ x = 2 := by bv_omega
  · exact ⟨.w128, rfl⟩
  · exact ⟨.w256, rfl⟩
  · exact ⟨.w512, rfl⟩

/-- `VL`, `M` and `Z` fields that pass the checks are those of a write-back discipline. -/
theorem WriteBack.exists_bits (vl : BitVec 2) (m z : BitVec 1) (hvl : vl ≠ 3) (hm : m = 1 → vl = 2)
    (hz : m = 0 → z = 0) : ∃ wb : WriteBack, vl = wb.width.code ∧ m = wb.maskBit ∧ z = wb.zeroBit := by
  obtain rfl | rfl : m = 0 ∨ m = 1 := by bv_omega
  · obtain ⟨w, rfl⟩ := Width.exists_code vl hvl
    exact ⟨.full w, rfl, rfl, hz rfl⟩
  · obtain rfl | rfl : z = 0 ∨ z = 1 := by bv_omega
    · exact ⟨.merge, hm rfl, rfl, rfl⟩
    · exact ⟨.zero, hm rfl, rfl, rfl⟩

/-- A descriptor with `KID = 0` where no mask is used and `IMM8 = 0` where no immediate is, is that of its form. -/
theorem Shape.form_shape (sh : Shape) (hk : sh.wb.maskBit = 0 → sh.kid = 0) (hi : sh.op = .mul → sh.imm = 0) :
    sh.fields.form.shape = sh := by
  obtain ⟨op, wb, kid, dst, srcA, srcB, imm⟩ := sh
  cases wb with
  | full w =>
    obtain rfl : kid = 0 := hk rfl
    cases op with
    | affine | affineInv => cases w <;> rfl
    | mul =>
      obtain rfl : imm = 0 := hi rfl
      cases w <;> rfl
  | merge | zero =>
    cases op with
    | affine | affineInv => rfl
    | mul =>
      obtain rfl : imm = 0 := hi rfl
      rfl

/-- Fields that pass the checks are the fields of their form. -/
theorem Fields.fields_form (f : Fields) (h : f.check = none) : f.form.shape.fields = f := by
  obtain ⟨op, vl, m, z, kid, dst, srcA, srcB, imm⟩ := f
  obtain ⟨⟨hop, himm⟩, hvl, hm, hzk⟩ := (check_eq_none_iff _).mp h
  obtain ⟨o, rfl⟩ := Op.exists_code op hop
  obtain ⟨wb, rfl, rfl, rfl⟩ := WriteBack.exists_bits vl m z hvl hm fun h0 => (hzk h0).1
  exact congrArg Shape.fields <| Shape.form_shape ⟨o, wb, kid, dst, srcA, srcB, imm⟩ (fun h0 => (hzk h0).2)
    fun ho => himm (congrArg Op.code ho)

/-- The fields of a valid word are those of the instruction it decodes to. -/
theorem fields_of_decode {cw : CommandWord} {i : Instr} (h : decode cw = .valid i) :
    i.shape.fields = Fields.ofWord cw := by
  obtain ⟨hcheck, rfl⟩ := (decode_valid_iff cw i).mp h
  exact Fields.fields_form _ hcheck

/-! ### The round trips (R82, R83, R89) -/

/-- Settles O2: the fields of a word are read back, pass the checks, and their form is the instruction. -/
theorem decodeEncodeRoundTrip : Obligations.DecodeEncodeRoundTrip := by
  unfold Obligations.DecodeEncodeRoundTrip encode
  intro i
  rw [decode_valid_iff, Fields.ofWord_pack]
  exact ⟨i.check_fields, i.form_fields⟩

/-- Settles O3: the instruction has the word's own fields, and the nine fields are the whole word. -/
theorem validWordIsItsEncoding : Obligations.ValidWordIsItsEncoding := by
  unfold Obligations.ValidWordIsItsEncoding encode
  intro cw i h
  rw [fields_of_decode h, Fields.pack_ofWord]

/-- The encoder and the decoder are inverse to each other. -/
theorem decode_eq_valid_iff (cw : CommandWord) (i : Instr) : decode cw = .valid i ↔ encode i = cw :=
  ⟨validWordIsItsEncoding cw i, fun h => h ▸ decodeEncodeRoundTrip i⟩

/-- Settles O8: each word is evaluated as the encoding, and decodes to the instruction by the round trip. -/
theorem workedEncodings : Obligations.WorkedEncodings := by
  unfold Obligations.WorkedEncodings
  simp only [decode_eq_valid_iff]
  decide

theorem or_reverse {w : Nat} (a b c d e f g h i : BitVec w) :
    a ||| b ||| c ||| d ||| e ||| f ||| g ||| h ||| i = i ||| h ||| g ||| f ||| e ||| d ||| c ||| b ||| a := by ac_rfl

/-- The packed word as R83 writes it. -/
theorem Fields.pack_eq_or (f : Fields) :
    f.pack = f.op.setWidth 32 ||| (f.vl.setWidth 32 <<< 2) ||| (f.m.setWidth 32 <<< 4) ||| (f.z.setWidth 32 <<< 5) |||
      (f.kid.setWidth 32 <<< 6) ||| (f.dst.setWidth 32 <<< 9) ||| (f.srcA.setWidth 32 <<< 14) |||
      (f.srcB.setWidth 32 <<< 19) ||| (f.imm.setWidth 32 <<< 24) := by
  have h : f.pack = (f.imm ++ f.srcB ++ f.srcA ++ f.dst ++ f.kid ++ f.z ++ f.m ++ f.vl ++ f.op).setWidth 32 :=
    (BitVec.setWidth_eq _).symm
  simp only [h, BitVec.setWidth_append_eq_shiftLeft_setWidth_or, BitVec.shiftLeft_or_distrib, ← BitVec.shiftLeft_add]
  exact or_reverse ..

/-- Settles O1: every concatenation of the pattern string is a shift and an OR. -/
theorem encodeComposesFields : Obligations.EncodeComposesFields :=
  fun i => i.shape.fields.pack_eq_or

/-- Settles O4: the five causes are the first failing checks; fields that pass are those of the form. -/
theorem decodeFollowsTheChecks : Obligations.DecodeFollowsTheChecks := by
  unfold Obligations.DecodeFollowsTheChecks
  simp only [decode_violation_iff, check_ofWord]
  intro cw
  refine ⟨fun h => ?_, fun ho hv => ?_, fun ho hv hm hw => ?_, fun ho hv hm hzk => ?_, fun ho hv hm hzk hi => ?_,
    fun ho hv hm hzk hi => ?_⟩
  · rw [if_pos h]
  · rw [if_neg ho, if_pos hv]
  · rw [if_neg ho, if_neg hv, if_pos ⟨hm, hw⟩]
  · simp [ho, hv, hm, hzk]
  · grind
  · have hcheck : (Fields.ofWord cw).check = none := by
      rw [check_ofWord]
      grind
    obtain ⟨i, hi⟩ : ∃ i, decode cw = .valid i := ⟨_, (decode_valid_iff cw _).mpr ⟨hcheck, rfl⟩⟩
    refine ⟨i, hi, ?_⟩
    simp [← ofWord_op_toNat, ← ofWord_vl_toNat, ← ofWord_m_toNat, ← ofWord_z_toNat, ← ofWord_kid_toNat,
      ← ofWord_dst_toNat, ← ofWord_srcA_toNat, ← ofWord_srcB_toNat, ← ofWord_imm_toNat, ← fields_of_decode hi,
      Shape.fields]

/-! ### The opcode map (R93) -/

/-- The 15 forms in the order of the opcode map, each as its operation and its write-back discipline. -/
def forms : List (Op × WriteBack) :=
  [.affine, .affineInv, .mul].product [.full .w128, .full .w256, .full .w512, .merge, .zero]

theorem mem_forms (p : Op × WriteBack) : p ∈ forms := by
  obtain ⟨o, wb⟩ := p
  cases o <;> cases wb with
  | full w => cases w <;> decide
  | merge | zero => decide

/-- The instruction of a form with every operand 0. -/
def zeroInstr (p : Op × WriteBack) : Instr := (Shape.fields ⟨p.1, p.2, 0, 0, 0, 0, 0⟩).form

/-- The bits a form fixes: `OP`, `VL`, `M` and `Z`, `KID` where no mask is used, `IMM8` where no immediate is (R92). -/
def fixedFields (p : Op × WriteBack) : Fields where
  op := BitVec.allOnes 2
  vl := BitVec.allOnes 2
  m := BitVec.allOnes 1
  z := BitVec.allOnes 1
  kid := if p.2.maskBit = 0 then BitVec.allOnes 3 else 0
  dst := 0
  srcA := 0
  srcB := 0
  imm := if p.1 = .mul then BitVec.allOnes 8 else 0

/-- The row of a form, derived from the encoder. -/
def rowOf (p : Op × WriteBack) : OpcodeRow where
  mnemonic := (zeroInstr p).mnemonic
  mtch := encode (zeroInstr p)
  mask := (fixedFields p).pack

/-- The printed map is the derived one. -/
theorem opcodeMap_eq : opcodeMap = forms.map rowOf := by decide

theorem opcodeMap_mnemonics_nodup : (opcodeMap.map OpcodeRow.mnemonic).Nodup := by decide

theorem zeroInstr_shape (p : Op × WriteBack) : (zeroInstr p).shape = ⟨p.1, p.2, 0, 0, 0, 0, 0⟩ :=
  Shape.form_shape _ (fun _ => rfl) fun _ => rfl

/-- The mnemonic says the operation and the discipline and nothing else. -/
theorem mnemonic_eq_rowOf (i : Instr) : i.mnemonic = (rowOf (i.shape.op, i.shape.wb)).mnemonic := by
  cases i <;> rfl

theorem rowOf_mnemonic_inj {p q : Op × WriteBack} (h : (rowOf p).mnemonic = (rowOf q).mnemonic) : p = q := by
  have hnodup : (forms.map fun p => (rowOf p).mnemonic).Nodup := by
    simpa [opcodeMap_eq, Function.comp_def] using opcodeMap_mnemonics_nodup
  exact List.inj_on_of_nodup_map hnodup (mem_forms p) (mem_forms q) h

theorem word_eq_iff_ofWord_eq (cw cw' : CommandWord) : cw = cw' ↔ Fields.ofWord cw = Fields.ofWord cw' :=
  wordEquiv.apply_eq_iff_eq.symm

/-- Masking a word masks its fields. -/
theorem ofWord_and (cw cw' : CommandWord) :
    Fields.ofWord (cw &&& cw') =
      { op := (Fields.ofWord cw).op &&& (Fields.ofWord cw').op
        vl := (Fields.ofWord cw).vl &&& (Fields.ofWord cw').vl
        m := (Fields.ofWord cw).m &&& (Fields.ofWord cw').m
        z := (Fields.ofWord cw).z &&& (Fields.ofWord cw').z
        kid := (Fields.ofWord cw).kid &&& (Fields.ofWord cw').kid
        dst := (Fields.ofWord cw).dst &&& (Fields.ofWord cw').dst
        srcA := (Fields.ofWord cw).srcA &&& (Fields.ofWord cw').srcA
        srcB := (Fields.ofWord cw).srcB &&& (Fields.ofWord cw').srcB
        imm := (Fields.ofWord cw).imm &&& (Fields.ofWord cw').imm } := by
  simp only [Fields.ofWord, BitVec.extractLsb'_and]

theorem and_ite_allOnes_eq_zero_iff {w : Nat} (x : BitVec w) (c : Prop) [Decidable c] :
    x &&& (if c then BitVec.allOnes w else 0#w) = 0#w ↔ (c → x = 0#w) := by
  split <;> simp [*]

/-- What matching a row says of the fields. -/
theorem matches_rowOf_iff (p : Op × WriteBack) (cw : CommandWord) :
    cw &&& (rowOf p).mask = (rowOf p).mtch ↔
      (Fields.ofWord cw).op = p.1.code ∧ (Fields.ofWord cw).vl = p.2.width.code ∧ (Fields.ofWord cw).m = p.2.maskBit ∧
        (Fields.ofWord cw).z = p.2.zeroBit ∧ (p.2.maskBit = 0 → (Fields.ofWord cw).kid = 0) ∧
        (p.1 = .mul → (Fields.ofWord cw).imm = 0) := by
  rw [word_eq_iff_ofWord_eq, ofWord_and]
  simp only [rowOf, encode, Fields.ofWord_pack, zeroInstr_shape, fixedFields, Shape.fields, Fields.mk.injEq,
    BitVec.ofNat_eq_ofNat, BitVec.and_allOnes, BitVec.and_zero, and_ite_allOnes_eq_zero_iff, true_and]

/-- A form is decoded exactly from the words of its row. -/
theorem encodedBy_rowOf (p : Op × WriteBack) : EncodedBy (rowOf p).mnemonic (rowOf p).mtch (rowOf p).mask := by
  intro cw
  rw [matches_rowOf_iff]
  constructor
  · rintro ⟨i, hdecode, hname⟩
    obtain rfl : (i.shape.op, i.shape.wb) = p := rowOf_mnemonic_inj ((mnemonic_eq_rowOf i).symm.trans hname)
    obtain ⟨⟨-, himm⟩, -, -, hzk⟩ := (Fields.check_eq_none_iff _).mp i.check_fields
    rw [← fields_of_decode hdecode]
    exact ⟨rfl, rfl, rfl, rfl, fun h0 => (hzk h0).2, fun ho => himm (congrArg Op.code ho)⟩
  · rintro ⟨hop, hvl, hm, hz, hkid, himm⟩
    obtain ⟨o, wb⟩ := p
    obtain ⟨sh, hsh, rfl, rfl⟩ : ∃ sh : Shape, sh.fields = Fields.ofWord cw ∧ sh.op = o ∧ sh.wb = wb :=
      ⟨⟨o, wb, (Fields.ofWord cw).kid, (Fields.ofWord cw).dst, (Fields.ofWord cw).srcA, (Fields.ofWord cw).srcB,
        (Fields.ofWord cw).imm⟩, by rw [Shape.fields, ← hop, ← hvl, ← hm, ← hz], rfl, rfl⟩
    rw [← hsh] at hkid himm
    have hshape : sh.fields.form.shape = sh := sh.form_shape hkid himm
    refine ⟨sh.fields.form, ?_, ?_⟩
    · rw [decode_eq_valid_iff, encode, hshape, hsh, Fields.pack_ofWord]
    · rw [mnemonic_eq_rowOf, hshape]

theorem mem_opcodeMap_iff (row : OpcodeRow) : row ∈ opcodeMap ↔ ∃ p, rowOf p = row := by
  rw [opcodeMap_eq, List.mem_map]
  exact exists_congr fun p => and_iff_right (mem_forms p)

theorem encodedBy_of_mem {row : OpcodeRow} (h : row ∈ opcodeMap) : EncodedBy row.mnemonic row.mtch row.mask := by
  obtain ⟨p, rfl⟩ := (mem_opcodeMap_iff row).mp h
  exact encodedBy_rowOf p

/-- A word matches a row exactly when it decodes to the row's form. -/
theorem row_matches_iff {row : OpcodeRow} (h : row ∈ opcodeMap) (cw : CommandWord) :
    row.matches cw = true ↔ ∃ i, decode cw = .valid i ∧ i.mnemonic = row.mnemonic := by
  rw [OpcodeRow.matches, decide_eq_true_iff, encodedBy_of_mem h cw]

/-- A word decodes to one instruction, so it matches no two rows, whose mnemonics differ. -/
theorem rows_disjoint : opcodeMap.Pairwise fun r q => ∀ cw, ¬(r.matches cw = true ∧ q.matches cw = true) := by
  refine (List.pairwise_map.mp opcodeMap_mnemonics_nodup).imp_of_mem fun hr hq hne cw => ?_
  rw [row_matches_iff hr, row_matches_iff hq]
  rintro ⟨⟨i, hi, hir⟩, ⟨j, hj, hjq⟩⟩
  obtain rfl : i = j := Decoded.valid.inj (hi.symm.trans hj)
  exact hne (hir.symm.trans hjq)

/-- Settles O5: the printed map is the one derived from the encoder, row by row. -/
theorem opcodeMapIsExact : Obligations.OpcodeMapIsExact := by
  unfold Obligations.OpcodeMapIsExact
  refine ⟨fun row => encodedBy_of_mem, rows_disjoint, fun cw hnone => ?_⟩
  obtain ⟨i, hi⟩ | hviolation := decode_total cw
  · have hrow : rowOf (i.shape.op, i.shape.wb) ∈ opcodeMap := (mem_opcodeMap_iff _).mpr ⟨_, rfl⟩
    have hmatch := (row_matches_iff hrow cw).mpr ⟨i, hi, mnemonic_eq_rowOf i⟩
    simp [hnone _ hrow] at hmatch
  · exact hviolation

/-! ### Counting the valid words (R94) -/

/-- The fields in three groups: what the operation decides, what the width and the mask decide, and the registers. -/
def fieldGroups : Fields ≃ (BitVec 2 × Byte) × (BitVec 2 × BitVec 1 × BitVec 1 × KId) × (VId × VId × VId) where
  toFun f := ((f.op, f.imm), (f.vl, f.m, f.z, f.kid), (f.dst, f.srcA, f.srcB))
  invFun g := ⟨g.1.1, g.2.1.1, g.2.1.2.1, g.2.1.2.2.1, g.2.1.2.2.2, g.2.2.1, g.2.2.2.1, g.2.2.2.2, g.1.2⟩
  left_inv _ := rfl
  right_inv _ := rfl

/-- `OP` and `IMM8` are legal together. -/
def OperationLegal (g : BitVec 2 × Byte) : Prop := g.1 ≠ 3 ∧ (g.1 = 2 → g.2 = 0)

/-- `VL`, `M`, `Z` and `KID` are legal together. -/
def MaskingLegal (g : BitVec 2 × BitVec 1 × BitVec 1 × KId) : Prop :=
  g.1 ≠ 3 ∧ (g.2.1 = 1 → g.1 = 2) ∧ (g.2.1 = 0 → g.2.2.1 = 0 ∧ g.2.2.2 = 0)

theorem exists_valid_iff (cw : CommandWord) :
    (∃ i, decode cw = .valid i) ↔
      OperationLegal (fieldGroups (wordEquiv cw)).1 ∧ MaskingLegal (fieldGroups (wordEquiv cw)).2.1 := by
  simp only [decode_valid_iff, exists_and_left, exists_eq', and_true]
  exact Fields.check_eq_none_iff _

/-- Two affine operations with any immediate, and the multiply with immediate 0. -/
theorem card_operationLegal : Nat.card { g // OperationLegal g } = 2 * 2 ^ 8 + 1 := by
  simp only [OperationLegal, Nat.card_eq_fintype_card]
  decide +kernel

/-- Three unmasked widths, and two policies with eight masks each: the 19 of R94. -/
theorem card_maskingLegal : Nat.card { g // MaskingLegal g } = 3 + 2 * 8 := by
  simp only [MaskingLegal, Nat.card_eq_fintype_card]
  decide +kernel

theorem natCard_bitVec (n : Nat) : Nat.card (BitVec n) = 2 ^ n :=
  (Nat.card_congr BitVec.equivFin.toEquiv).trans (Nat.card_fin _)

theorem card_registers : Nat.card (VId × VId × VId) = 2 ^ 15 := by
  simp only [Nat.card_prod, natCard_bitVec, Nat.reducePow, Nat.reduceMul]

/-- The valid words are counted group by group. -/
theorem card_valid_words :
    Nat.card { cw : CommandWord // ∃ i, decode cw = .valid i } = (2 * 2 ^ 8 + 1) * ((3 + 2 * 8) * 2 ^ 15) := by
  have hwords : { cw : CommandWord // ∃ i, decode cw = .valid i } ≃ { g // OperationLegal g } ×
      { g // MaskingLegal g } × VId × VId × VId :=
    calc _ ≃ { g // OperationLegal (Prod.fst g) ∧ MaskingLegal (Prod.fst g.2) } :=
          (wordEquiv.trans fieldGroups).subtypeEquiv exists_valid_iff
      _ ≃ _ := Equiv.subtypeProdEquivProd (q := MaskingLegal ∘ Prod.fst)
      _ ≃ _ := (Equiv.refl _).prodCongr Equiv.prodSubtypeFstEquivSubtypeProd
  rw [Nat.card_congr hwords, Nat.card_prod, Nat.card_prod, card_operationLegal, card_maskingLegal, card_registers]

/-- The settings of bits 8:0, with all other bits zero. -/
theorem count_low_settings : ((List.range 512).filter fun n => (decodeTableWord 32 n).isSome).length = 57 := by
  decide +kernel

/-- Settles O6: the 57 settings by evaluation, the words by the legal values of each group of fields. -/
theorem countOfValidWords : Obligations.CountOfValidWords :=
  ⟨count_low_settings, card_valid_words⟩

end Sys2Proof

namespace Sys2Proof.Machine

/-! ### The sources of a multiply (R84, R142, R210) -/

/-- The logarithms are added, in either order. -/
theorem gfMultiply_comm (c : Config) (a b : Byte) : gfMultiply c a b = gfMultiply c b a := by
  simp only [gfMultiply, or_comm, Nat.add_comm (log c a)]

theorem laneMul_comm (c : Config) (a b : Lane) : laneMul c a b = laneMul c b a := by
  ext k hk : 1
  rw [laneMul_getElem, laneMul_getElem, gfMultiply_comm]

theorem computed_mul_comm (c : Config) (imm : Byte) {nl : Nat} (a b : Vector Byte (16 * nl)) :
    computed c .mul imm a b = computed c .mul imm b a := by
  ext j hj : 1
  rw [computed_getElem, computed_getElem, laneOp, laneOp, laneMul_comm]

theorem execResult_mul_comm (c : Config) (wb : WriteBack) (imm : Byte) (a b old : VReg) (m : KReg) :
    execResult c .mul wb imm a b old m = execResult c .mul wb imm b a old m := by
  cases wb <;> simp only [execResult, computed_mul_comm c imm (readLow _ _ a)]

theorem runCommand_mul_comm (wb : WriteBack) (k : KId) (d a b : VId) (imm : Byte) (s : State) :
    runCommand Config.unit ⟨.mul, wb, k, d, a, b, imm⟩ s = runCommand Config.unit ⟨.mul, wb, k, d, b, a, imm⟩ s := by
  rw [runCommand_unit, runCommand_unit, newValue, newValue, execResult_mul_comm]

/-- Settles O35: all five forms run the one command whose product commutes. -/
theorem gfmulSourcesCommute : Obligations.GfmulSourcesCommute := by
  unfold Obligations.GfmulSourcesCommute
  intro d a b k s
  simp only [exec_eq_runCommand, Instr.shape]
  exact ⟨runCommand_mul_comm .., runCommand_mul_comm .., runCommand_mul_comm .., runCommand_mul_comm ..,
    runCommand_mul_comm ..⟩

end Sys2Proof.Machine

namespace Sys2Proof.Machine

/-! ## The field tables (`40_field_tables.md`) -/

/-! ### `INV` (R111, R112, R113) -/

/-- The printed table, entry by entry: the product of a nonzero byte and its entry is 1 (R111). -/
theorem gfMulRef_inv (a : Byte) (ha : a ≠ 0) : gfMulRef a (inv a) = 1 := by
  revert a
  decide +kernel

@[simp] theorem inv_zero : inv 0 = 0 := rfl

/-- Two bytes that give 1 with the same byte are equal: each is the product of all three. -/
theorem gfMulRef_right_inverse_unique {a b b' : Byte} (h : gfMulRef a b = 1) (h' : gfMulRef a b' = 1) : b = b' :=
  calc
    b = gfMulRef b (gfMulRef a b') := by rw [h', gfMulRef_one_right]
    _ = gfMulRef (gfMulRef a b) b' := by rw [← gfMulRef_assoc, gfMulRef_comm b a]
    _ = b' := by rw [h, gfMulRef_one_left]

theorem gfMulRef_eq_one_iff (a : Byte) (ha : a ≠ 0) (b : Byte) : gfMulRef a b = 1 ↔ b = inv a :=
  ⟨fun h => gfMulRef_right_inverse_unique h (gfMulRef_inv a ha), fun h => h ▸ gfMulRef_inv a ha⟩

theorem inv_ne_zero (a : Byte) (ha : a ≠ 0) : inv a ≠ 0 := by
  intro h
  have h1 := gfMulRef_inv a ha
  rw [h, gfMulRef_zero_right] at h1
  exact absurd h1 (by decide)

/-- A nonzero byte is the one byte whose product with its inverse is 1. -/
theorem inv_involutive : Function.Involutive inv := by
  intro a
  by_cases ha : a = 0
  · rw [ha, inv_zero, inv_zero]
  · refine ((gfMulRef_eq_one_iff (inv a) (inv_ne_zero a ha) a).mp ?_).symm
    rw [gfMulRef_comm, gfMulRef_inv a ha]

/-- Settles O10: the table gives an inverse, and an inverse is unique. -/
theorem inverseIsUnique : Obligations.InverseIsUnique := ⟨inv_zero, gfMulRef_eq_one_iff⟩

/-- Settles O9: the products by the table, the involution by the uniqueness of an inverse. -/
theorem inverseTableProperties : Obligations.InverseTableProperties :=
  ⟨inv_zero, rfl, inv_involutive, gfMulRef_inv, inv_involutive.bijective⟩

/-! ### `LOG` and `EXP` of any generator (R115, R118, R119) -/

@[simp] theorem log_zero (c : Config) : log c 0 = 0 := by
  rw [log_eq_buildLog]
  simp [buildLog]

theorem exp_zero (c : Config) : exp c 0 = 1 := exp_eq_gfPow c 0 (by decide)

theorem exp_succ (c : Config) (i : Nat) (hi : i < 255) : exp c (i + 1) = gfMulRef (exp c i) c.gen := by
  rw [exp_eq_gfPow c _ (by omega), exp_eq_gfPow c i (by omega), gfPow]

theorem exp_one (c : Config) : exp c 1 = c.gen := by
  rw [exp_succ c 0 (by decide), exp_zero, gfMulRef_one_left]

section LogExp

variable {c : Config} (hg : isGenerator c.gen = true)

include hg

theorem exp_255 : exp c 255 = 1 := by
  rw [exp_eq_gfPow c 255 (by decide), (gfPow_generator hg).1]

theorem exp_ne_zero (i : Nat) (hi : i < 255) : exp c i ≠ 0 := by
  rw [exp_eq_gfPow c i (by omega)]
  exact gfPow_generator_ne_zero hg i (Nat.le_of_lt hi)

theorem log_exp (i : Nat) (hi : i < 255) : log c (exp c i) = i := by
  rw [exp_eq_gfPow c i (by omega), log_gfPow c hg i hi]

theorem log_one : log c 1 = 0 := log_gfPow c hg 0 (by decide)

theorem log_gen : log c c.gen = 1 := by
  rw [← exp_one c, log_exp hg 1 (by decide)]

/-- Every nonzero byte is an entry of `EXP` below 255. -/
theorem exists_exp_eq (a : Byte) (ha : a ≠ 0) : ∃ i, i < 255 ∧ exp c i = a := by
  obtain ⟨i, hi, h⟩ := exists_gfPow_eq hg a ha
  exact ⟨i, hi, (exp_eq_gfPow c i (by omega)).trans h⟩

theorem log_lt (a : Byte) : log c a < 255 := by
  by_cases ha : a = 0
  · rw [ha, log_zero]
    decide
  · obtain ⟨i, hi, rfl⟩ := exists_exp_eq hg a ha
    rwa [log_exp hg i hi]

theorem exp_log (a : Byte) (ha : a ≠ 0) : exp c (log c a) = a := by
  obtain ⟨i, hi, rfl⟩ := exists_exp_eq hg a ha
  rw [log_exp hg i hi]

theorem invOn_log_exp : Set.InvOn (log c) (exp c) (Set.Iio 255) { a : Byte | a ≠ 0 } := ⟨log_exp hg, exp_log hg⟩

/-- `EXP` takes exponents to nonzero bytes, and `LOG` takes them back. -/
theorem bijOn_exp : Set.BijOn (exp c) (Set.Iio 255) { a : Byte | a ≠ 0 } :=
  (invOn_log_exp hg).bijOn (exp_ne_zero hg) fun a _ => log_lt hg a

theorem bijOn_log : Set.BijOn (log c) { a : Byte | a ≠ 0 } (Set.Iio 255) :=
  (invOn_log_exp hg).symm.bijOn (fun a _ => log_lt hg a) (exp_ne_zero hg)

/-- The exponents of a byte and of its inverse sum to 255, the exponent of 1. -/
theorem inv_exp (i : Nat) (hi : i < 255) : inv (exp c i) = exp c (255 - i) := by
  refine ((gfMulRef_eq_one_iff _ (exp_ne_zero hg i hi) _).mp ?_).symm
  rw [exp_eq_gfPow c i (by omega), exp_eq_gfPow c _ (by omega), ← gfPow_add, Nat.add_sub_cancel' (Nat.le_of_lt hi),
    (gfPow_generator hg).1]

theorem log_inv (a : Byte) (ha : a ≠ 0) : log c (inv a) = (255 - log c a) % 255 := by
  obtain ⟨i, hi, rfl⟩ := exists_exp_eq hg a ha
  rw [inv_exp hg i hi, log_exp hg i hi]
  obtain rfl | hpos := Nat.eq_zero_or_pos i
  · rw [Nat.sub_zero, exp_255 hg, log_one hg, Nat.mod_self]
  · rw [log_exp hg _ (by omega), Nat.mod_eq_of_lt (by omega)]

theorem inv_eq_exp (a : Byte) (ha : a ≠ 0) : inv a = exp c (255 - log c a) := by
  rw [← inv_exp hg _ (log_lt hg a), exp_log hg a ha]

end LogExp

/-- Settles O11: `EXP` holds the generator's powers, and `LOG` the exponent of each. -/
theorem logAndExpOfEveryGenerator : Obligations.LogAndExpOfEveryGenerator := fun c hg =>
  ⟨exp_zero c, exp_succ c, exp_255 hg, log_exp hg, log_zero c, log_one hg, fun a => Nat.le_of_lt_succ (log_lt hg a)⟩

/-- Settles O12: the tables of this hardware's generator are inverse to each other, and `LOG[0]` is the exponent of 1. -/
theorem logExpAreInverse : Obligations.LogExpAreInverse :=
  have hg : isGenerator Config.unit.gen = true := isGenerator_0x03
  ⟨fun a ha => by rw [gfMulRef_comm, gfMulRef_inv a ha], exp_log hg, log_exp hg, bijOn_exp hg, bijOn_log hg,
    by rw [log_zero, exp_zero]⟩

/-- Settles O13: an exponent and that of the inverse sum to 255. -/
theorem inverseThroughLogarithms : Obligations.InverseThroughLogarithms :=
  have hg : isGenerator Config.unit.gen = true := isGenerator_0x03
  ⟨inv_eq_exp hg, log_inv hg, log_gen hg, exp_one _⟩

/-! ### Which bytes are generators (R114) -/

theorem gfPow_mul (g : Byte) (i j : Nat) : gfPow g (i * j) = gfPow (gfPow g i) j := by
  induction j with
  | zero => rfl
  | succ j ih => rw [Nat.mul_succ, gfPow_add, ih, gfPow]

theorem gfPow_of_one (n : Nat) : gfPow 1 n = 1 := by
  induction n with
  | zero => rfl
  | succ n ih => rw [gfPow, ih, gfMulRef_one_right]

/-- The order found is the first exponent, among those tried, whose power is 1. -/
theorem orderFrom_eq (g : Byte) (n i m : Nat) (him : i ≤ m) (hmn : m < i + n) (hone : gfPow g m = 1)
    (hfirst : ∀ j, i ≤ j → j < m → gfPow g j ≠ 1) : orderFrom g n (gfPow g i) i = m := by
  induction n generalizing i with
  | zero => omega
  | succ n ih =>
    obtain rfl | hlt := Nat.eq_or_lt_of_le him
    · rw [orderFrom, if_pos hone]
    · rw [orderFrom, if_neg (hfirst i (Nat.le_refl i) hlt)]
      exact ih (i + 1) hlt (by omega) fun j hij => hfirst j (by omega)

theorem isGenerator_iff (g : Byte) :
    isGenerator g = true ↔ gfPow g 255 = 1 ∧ ∀ j, 1 ≤ j → j < 255 → gfPow g j ≠ 1 := by
  refine ⟨gfPow_generator, fun ⟨hone, hfirst⟩ => decide_eq_true ?_⟩
  have horder := orderFrom_eq g 255 1 255 (by decide) (by decide) hone hfirst
  rwa [gfPow, gfPow, gfMulRef_one_left] at horder

/-- No power of 0 but the empty one is 1. -/
theorem not_isGenerator_zero : isGenerator 0 ≠ true := by
  rw [Ne, isGenerator_iff, gfPow, gfMulRef_zero_right]
  exact fun h => absurd h.1 (by decide)

section PowerOfGenerator

variable {g : Byte} (hg : isGenerator g = true)

include hg

/-- Exponents count modulo 255. -/
theorem gfPow_generator_eq_one_iff (n : Nat) : gfPow g n = 1 ↔ 255 ∣ n := by
  obtain ⟨h255, hfirst⟩ := gfPow_generator hg
  have hmod : gfPow g n = gfPow g (n % 255) := by
    conv_lhs => rw [← Nat.div_add_mod n 255, gfPow_add, gfPow_mul, h255, gfPow_of_one, gfMulRef_one_left]
  rw [hmod, Nat.dvd_iff_mod_eq_zero]
  refine ⟨fun h => ?_, fun h => by rw [h, gfPow]⟩
  by_contra h0
  exact hfirst (n % 255) (Nat.pos_of_ne_zero h0) (Nat.mod_lt n (by decide)) h

/-- A power of a generator generates exactly when its exponent has no factor in common with 255. -/
theorem isGenerator_gfPow_iff (i : Nat) : isGenerator (gfPow g i) = true ↔ Nat.Coprime 255 i := by
  simp only [isGenerator_iff, ← gfPow_mul, ne_eq, gfPow_generator_eq_one_iff hg]
  constructor
  · intro ⟨_, hfirst⟩
    have hd : Nat.gcd 255 i ∣ 255 := Nat.gcd_dvd_left 255 i
    have hpos : 0 < Nat.gcd 255 i := Nat.gcd_pos_of_pos_left i (by decide)
    by_contra hne
    have hgt : 1 < Nat.gcd 255 i := Nat.lt_of_le_of_ne hpos (Ne.symm hne)
    refine hfirst (255 / Nat.gcd 255 i) (Nat.div_pos (Nat.le_of_dvd (by decide) hd) hpos)
      (Nat.div_lt_self (by decide) hgt) ?_
    rw [← Nat.mul_div_assoc i hd, Nat.mul_comm, Nat.mul_div_assoc 255 (Nat.gcd_dvd_right 255 i)]
    exact Nat.dvd_mul_right _ _
  · intro hco
    refine ⟨Nat.dvd_mul_left 255 i, fun j hj hlt hdvd => ?_⟩
    exact absurd (Nat.le_of_dvd hj (hco.dvd_of_dvd_mul_left hdvd)) (Nat.not_le.mpr hlt)

/-- There are as many generators as exponents below 255 with no factor in common with 255. -/
theorem card_generators_eq_totient :
    ((Finset.range 256).filter fun n => isGenerator (BitVec.ofNat 8 n) = true).card = Nat.totient 255 := by
  refine (Finset.card_bij (fun i _ => (gfPow g i).toNat) (fun i hi => ?_) (fun i hi j hj h => ?_)
    (fun n hn => ?_)).symm
  · obtain ⟨-, hco⟩ := Finset.mem_filter.mp hi
    rw [Finset.mem_filter, Finset.mem_range, BitVec.ofNat_toNat, BitVec.setWidth_eq, isGenerator_gfPow_iff hg]
    exact ⟨(gfPow g i).isLt, hco⟩
  · exact gfPow_generator_inj hg i j (Finset.mem_range.mp (Finset.mem_filter.mp hi).1)
      (Finset.mem_range.mp (Finset.mem_filter.mp hj).1) (BitVec.eq_of_toNat_eq h)
  · obtain ⟨hlt, hgen⟩ := Finset.mem_filter.mp hn
    obtain ⟨i, hi, h⟩ := exists_gfPow_eq hg (BitVec.ofNat 8 n) fun h0 => not_isGenerator_zero (h0 ▸ hgen)
    rw [← h, isGenerator_gfPow_iff hg] at hgen
    refine ⟨i, Finset.mem_filter.mpr ⟨Finset.mem_range.mpr hi, hgen⟩, ?_⟩
    rw [h, BitVec.toNat_ofNat, Nat.mod_eq_of_lt (Finset.mem_range.mp hlt)]

end PowerOfGenerator

theorem totient_255 : Nat.totient 255 = 128 := by decide +kernel

theorem mulOrder_0x02 : mulOrder 0x02 = 51 := by decide +kernel

theorem generator_ge_three (g : Byte) (hg : isGenerator g = true) : 3 ≤ g.toNat := by
  have hsmall : ∀ n < 3, isGenerator (BitVec.ofNat 8 n) = false := by decide +kernel
  by_contra hlt
  have h := hsmall g.toNat (Nat.lt_of_not_le hlt)
  rw [BitVec.ofNat_toNat, BitVec.setWidth_eq, hg] at h
  exact absurd h (by decide)

/-- Settles O14: the generators are the powers of 0x03 with an exponent coprime to 255, and φ(255) = 128. -/
theorem generatorsOfTheField : Obligations.GeneratorsOfTheField := by
  refine ⟨mulOrder_0x02, isGenerator_0x03, generator_ge_three, ?_⟩
  rw [← List.toFinset_card_of_nodup (List.nodup_range.filter _), List.toFinset_filter, List.toFinset_range,
    card_generators_eq_totient isGenerator_0x03, totient_255]

end Sys2Proof.Machine

namespace Sys2Proof.Machine

/-! ## The byte kernels (`41_byte_kernels.md`) -/

/-! ### The parity of a masked row (R16, R132) -/

@[simp] theorem parity_zero : parity 0#8 = false := rfl

theorem parity_xor (x y : Byte) : parity (x ^^^ y) = (parity x ^^ parity y) := by
  have hcomm : Std.Commutative Bool.xor := ⟨Bool.xor_comm⟩
  simp only [parity, BitVec.getLsbD_xor]
  ac_rfl

theorem and_xor_left {w : Nat} (x y z : BitVec w) : x &&& (y ^^^ z) = (x &&& y) ^^^ (x &&& z) := by
  refine BitVec.eq_of_getLsbD_eq fun i _ => ?_
  simp only [BitVec.getLsbD_and, BitVec.getLsbD_xor, Bool.and_xor_distrib_left]

theorem and_xor_right {w : Nat} (x y z : BitVec w) : (x ^^^ y) &&& z = (x &&& z) ^^^ (y &&& z) := by
  rw [BitVec.and_comm, and_xor_left, BitVec.and_comm z, BitVec.and_comm z]

/-! ### `affine`, bit by bit (R131) -/

/-- The row of the next pass of the loop is the row one byte up. -/
theorem extractLsb'_ushiftRight_byte (m : Matrix64) (k : Nat) :
    (m >>> 8).extractLsb' (8 * k) 8 = m.extractLsb' (8 * (k + 1)) 8 := by
  refine BitVec.eq_of_getLsbD_eq fun j _ => ?_
  rw [BitVec.getLsbD_extractLsb', BitVec.getLsbD_extractLsb', BitVec.getLsbD_ushiftRight,
    show 8 * (k + 1) + j = 8 + (8 * k + j) by omega]

/-- One pass of the loop sets output bit `n` and no other. -/
theorem getLsbD_or_ofBool_shiftLeft (out : Byte) (b : Bool) (n j : Nat) (hj : j < 8) :
    (out ||| ((BitVec.ofBool b).setWidth 8 <<< n)).getLsbD j = (out.getLsbD j || (decide (j = n) && b)) := by
  rw [BitVec.getLsbD_or, BitVec.getLsbD_shiftLeft, BitVec.getLsbD_setWidth, BitVec.getLsbD_ofBool]
  obtain hlt | rfl | hgt := Nat.lt_trichotomy j n
  · simp [hlt, Nat.ne_of_lt hlt]
  · simp [hj]
  · simp [show j - n ≠ 0 by omega, Nat.ne_of_gt hgt]

/-- With `n` passes left, bits `n - 1` down to 0 are still to be set, each from its row of the rest of the matrix. -/
theorem affineLoop_getLsbD (n : Nat) (m : Matrix64) (v out : Byte) (j : Nat) (hj : j < 8) :
    (affineLoop n m v out).getLsbD j =
      (out.getLsbD j || (decide (j < n) && parity (m.extractLsb' (8 * (n - 1 - j)) 8 &&& v))) := by
  induction n generalizing m out with
  | zero => simp [affineLoop]
  | succ n ih =>
    rw [affineLoop, ih, getLsbD_or_ofBool_shiftLeft _ _ _ _ hj, extractLsb'_ushiftRight_byte,
      BitVec.setWidth_eq_extractLsb' (by decide)]
    obtain hlt | rfl | hgt := Nat.lt_trichotomy j n
    · rw [show n + 1 - 1 - j = n - 1 - j + 1 by omega]
      simp [hlt, Nat.ne_of_lt hlt, Nat.lt_succ_of_lt hlt]
    · simp
    · simp [Nat.not_lt_of_gt hgt, Nat.ne_of_gt hgt, show ¬j < n + 1 by omega]

/-- Output bit `i` is the parity of byte `7 - i` of the matrix under the value, XORed with bit `i` of the immediate. -/
theorem affine_getLsbD (m : Matrix64) (v imm : Byte) (i : Nat) (hi : i < 8) :
    (affine m v imm).getLsbD i = (parity (m.extractLsb' (8 * (7 - i)) 8 &&& v) ^^ imm.getLsbD i) := by
  rw [affine, BitVec.getLsbD_xor, affineLoop_getLsbD 8 m v 0 i hi]
  simp [hi]

/-- Settles O15: the loop's invariant, at eight passes left. -/
theorem affineClosedForm : Obligations.AffineClosedForm := affine_getLsbD

/-! ### The laws of `affine` (R133) -/

theorem affine_imm_zero_getLsbD (m : Matrix64) (v : Byte) (i : Nat) (hi : i < 8) :
    (affine m v 0).getLsbD i = parity (m.extractLsb' (8 * (7 - i)) 8 &&& v) := by
  simpa using affine_getLsbD m v 0 i hi

@[simp] theorem affine_zero_matrix (v imm : Byte) : affine 0 v imm = imm := by
  refine BitVec.eq_of_getLsbD_eq fun i hi => ?_
  simp [affine_getLsbD _ _ _ _ hi]

@[simp] theorem affine_zero_value (m : Matrix64) (imm : Byte) : affine m 0 imm = imm := by
  refine BitVec.eq_of_getLsbD_eq fun i hi => ?_
  simp [affine_getLsbD _ _ _ _ hi]

theorem affine_eq_xor_imm (m : Matrix64) (v imm : Byte) : affine m v imm = affine m v 0 ^^^ imm := by
  rw [affine, affine, show (0 : Byte) = 0#8 from rfl, BitVec.xor_zero]

theorem affine_additive_value (m : Matrix64) : XorAdditive fun v => affine m v 0 := by
  refine fun v w => BitVec.eq_of_getLsbD_eq fun i hi => ?_
  simp only [BitVec.getLsbD_xor, affine_imm_zero_getLsbD _ _ _ hi, and_xor_left, parity_xor]

theorem affine_xor_matrix (m m' : Matrix64) (v : Byte) :
    affine (m ^^^ m') v 0 = affine m v 0 ^^^ affine m' v 0 := by
  refine BitVec.eq_of_getLsbD_eq fun i hi => ?_
  simp only [BitVec.getLsbD_xor, affine_imm_zero_getLsbD _ _ _ hi, BitVec.extractLsb'_xor, and_xor_right, parity_xor]

/-- The identity matrix keeps each byte with one bit set, and so, being additive, every byte. -/
theorem affine_identity (v : Byte) : affine 0x0102040810204080 v 0 = v :=
  (affine_additive_value _).ext (g := id) (fun _ _ => rfl) (by decide) v

/-- Every row of the all-ones matrix keeps the whole value. -/
theorem affine_allOnes (v : Byte) :
    affine 0xFFFFFFFFFFFFFFFF v 0 = if parity v = true then 0xFF else 0x00 := by
  have hrow : ∀ i < 8, (0xFFFFFFFFFFFFFFFF : Matrix64).extractLsb' (8 * (7 - i)) 8 = BitVec.allOnes 8 := by decide
  have hones : ∀ i < 8, (0xFF : Byte).getLsbD i = true := by decide
  refine BitVec.eq_of_getLsbD_eq fun i hi => ?_
  rw [affine_imm_zero_getLsbD _ _ _ hi, hrow i hi, BitVec.allOnes_and]
  cases parity v with
  | false => exact BitVec.getLsbD_zero.symm
  | true => exact (hones i hi).symm

/-- Settles O16: the laws by the closed form, the worked examples by running the loop. -/
theorem affineLaws : Obligations.AffineLaws :=
  ⟨affine_identity, affine_zero_matrix, affine_zero_value, affine_allOnes, affine_eq_xor_imm, affine_additive_value,
    affine_xor_matrix, by decide, by decide⟩

/-! ### `affineInverse` (R134, R135) -/

theorem affineInverse_eq (m : Matrix64) (v imm : Byte) : affineInverse m v imm = affine m (inv v) imm := rfl

@[simp] theorem inv_one : inv 1 = 1 := rfl

/-- Settles O17: `affine` of the inverse, with the table's entries for 0, 1 and the examples. -/
theorem affineInverseLaws : Obligations.AffineInverseLaws := by
  refine ⟨affineInverse_eq, fun m imm => ?_, fun m imm => ?_, fun v => ?_, rfl, rfl, rfl, rfl, by decide, by decide,
    by decide⟩
  · rw [affineInverse_eq, inv_zero, affine_zero_value]
  · rw [affineInverse_eq, inv_one]
  · rw [affineInverse_eq, affine_identity]

/-! ### The product by the tables is the reference product (R140, R141) -/

/-- Settles O19: a nonzero byte is a power of the generator, and exponents add. -/
theorem multiplyIsTheSameForEveryGenerator : Obligations.MultiplyIsTheSameForEveryGenerator := gfMultiply_eq_gfMulRef

@[simp] theorem gfMultiply_unit (a b : Byte) : gfMultiply Config.unit a b = gfMulRef a b :=
  gfMultiply_eq_gfMulRef Config.unit isGenerator_0x03 a b

/-- Settles O18: 0x03, this hardware's `GEN`, is a generator. -/
theorem multiplyEqualsReference : Obligations.MultiplyEqualsReference := gfMultiply_unit

/-! ### The laws of the product (R142, R143) -/

/-- Settles O20: the reference product is commutative, with 0 absorbing and 1 neutral. -/
theorem multiplyAlgebra : Obligations.MultiplyAlgebra := by
  simp only [Obligations.MultiplyAlgebra, gfMultiply_unit]
  exact ⟨gfMulRef_comm, fun a => ⟨gfMulRef_zero_right a, gfMulRef_zero_left a⟩,
    fun a => ⟨gfMulRef_one_right a, gfMulRef_one_left a⟩⟩

/-- A nonzero factor cancels by its inverse, so a product that is 0 has a factor 0. -/
theorem eq_zero_or_eq_zero_of_gfMulRef_eq_zero (a b : Byte) (h : gfMulRef a b = 0) : a = 0 ∨ b = 0 := by
  by_cases ha : a = 0
  · exact .inl ha
  · right
    calc
      b = gfMulRef (gfMulRef a (inv a)) b := by rw [gfMulRef_inv a ha, gfMulRef_one_left]
      _ = gfMulRef (inv a) (gfMulRef a b) := by rw [gfMulRef_comm a, gfMulRef_assoc]
      _ = 0 := by rw [h, gfMulRef_zero_right]

/-- Settles O21: the field laws of the reference product, and the table's inverses. -/
theorem multiplyFieldLaws : Obligations.MultiplyFieldLaws := by
  simp only [Obligations.MultiplyFieldLaws, gfMultiply_unit]
  exact ⟨gfMulRef_assoc, gfMulRef_xor_right, eq_zero_or_eq_zero_of_gfMulRef_eq_zero, gfMulRef_inv, rfl,
    gfMulRef_inv 0x53 (by decide)⟩

/-! ### The sum of two logarithms (R137) -/

section LogSum

variable {c : Config} (hg : isGenerator c.gen = true)

include hg

theorem log_eq_zero_iff (a : Byte) (ha : a ≠ 0) : log c a = 0 ↔ a = 1 := by
  refine ⟨fun h => ?_, fun h => by rw [h, log_one hg]⟩
  rw [← exp_log hg a ha, h, exp_zero]

/-- A sum of exactly 255 belongs to mutually inverse elements other than 1, the one element whose exponent is 0. -/
theorem log_add_log_eq_255_iff (a b : Byte) (ha : a ≠ 0) (hb : b ≠ 0) :
    log c a + log c b = 255 ↔ b = inv a ∧ a ≠ 1 := by
  have hlog := log_lt hg a
  rw [Ne, ← log_eq_zero_iff hg a ha]
  constructor
  · intro h
    have hb255 : 255 - log c a = log c b := by omega
    have hblog := log_lt hg b
    exact ⟨by rw [inv_eq_exp hg a ha, hb255, exp_log hg b hb], by omega⟩
  · rintro ⟨rfl, hne⟩
    rw [log_inv hg a ha]
    omega

end LogSum

/-- Settles O22: each logarithm is at most 254. -/
theorem logSumRange : Obligations.LogSumRange := by
  intro a b ha hb
  have hg : isGenerator Config.unit.gen = true := isGenerator_0x03
  have hla := log_lt hg a
  have hlb := log_lt hg b
  exact ⟨by omega, fun h => by omega, log_add_log_eq_255_iff hg a b ha hb⟩

/-! ### The sample products (R145) -/

/-- Settles O23: the reference runs on the twelve pairs, and the tables give the same products. -/
theorem sampleProducts : Obligations.SampleProducts := by
  simp only [Obligations.SampleProducts, gfMultiply_unit, and_self, List.forall_mem_cons]
  refine ⟨?_, ?_, ?_, ?_, ?_, ?_, ?_, ?_, ?_, ?_, ?_, ?_, List.forall_mem_nil _⟩ <;> decide

end Sys2Proof.Machine

namespace Sys2Proof.Machine

/-! ## The lane processor (`42_lane_processor.md`) -/

/-! ### The matrix of a value byte, byte by byte (R151, R152) -/

/-- With a byte appended below, byte 0 is that byte and every other byte is one place higher. -/
theorem extractLsb'_append_byte {n : Nat} (hi : BitVec n) (lo : Byte) (j : Nat) :
    (hi ++ lo).extractLsb' (8 * j) 8 = if j = 0 then lo else hi.extractLsb' (8 * (j - 1)) 8 := by
  cases j with
  | zero => exact BitVec.extractLsb'_append_eq_right
  | succ j => exact BitVec.extractLsb'_append_eq_of_le (Nat.le_mul_of_pos_right 8 j.succ_pos)

/-- The matrix is seven such appends, so its byte `j` is the lane byte `j` places above `base`. -/
theorem packMatrix_extract_byte (b : Lane) (base : Fin 9) (j : Nat) (hj : j < 8) :
    (packMatrix b base).extractLsb' (8 * j) 8 = b[base.val + j] := by
  unfold packMatrix
  iterate 7 rw [extractLsb'_append_byte]
  interval_cases j <;> simp

@[simp] theorem span8_bytes : MatrixSpan.s8.bytes = 8 := rfl

@[simp] theorem span16_bytes : MatrixSpan.s16.bytes = 16 := rfl

theorem matrixBase_lt (c : Config) (k : Fin 16) : 8 * (k.val / c.matrixSpan.bytes) < 9 := by
  cases c.matrixSpan with
  | s8 => rw [span8_bytes]; omega
  | s16 => rw [span16_bytes]; omega

/-- The index of the first lane byte of the matrix of value byte `k`: `8 * q(k)` (R151). -/
def matrixBase (c : Config) (k : Fin 16) : Fin 9 := ⟨8 * (k.val / c.matrixSpan.bytes), matrixBase_lt c k⟩

@[simp] theorem matrixBase_val (c : Config) (k : Fin 16) :
    (matrixBase c k).val = 8 * (k.val / c.matrixSpan.bytes) := rfl

/-- The model's case split on the span is R151's formula. -/
theorem laneMatrix_eq_packMatrix (c : Config) (b : Lane) (k : Fin 16) :
    laneMatrix c b k = packMatrix b (matrixBase c k) := by
  have hbase (base : Fin 9) (h : 8 * (k.val / c.matrixSpan.bytes) = base.val) : matrixBase c k = base := Fin.ext h
  cases hc : c.matrixSpan with
  | s16 =>
    rw [hc, span16_bytes, Nat.div_eq_of_lt k.isLt] at hbase
    rw [laneMatrix_span16 c b k hc, hbase 0 rfl]
  | s8 =>
    rw [hc, span8_bytes] at hbase
    obtain hlow | hhigh := Nat.lt_or_ge k.val 8
    · rw [laneMatrix_low c b k hlow, hbase 0 (by rw [Nat.div_eq_of_lt hlow]; rfl)]
    · have hq : k.val / 8 = 1 := by omega
      rw [laneMatrix_span8_high c b k hc hhigh, hbase 8 (by rw [hq]; rfl)]

theorem laneMatrix_extract_byte (c : Config) (b : Lane) (k : Fin 16) (j : Nat) (hj : j < 8) :
    (laneMatrix c b k).extractLsb' (8 * j) 8 = b[(matrixBase c k).val + j] := by
  rw [laneMatrix_eq_packMatrix, packMatrix_extract_byte _ _ _ hj]

/-- The row of output bit `i` is lane byte `8 * q(k) + 7 - i`, counted down from bit 7. -/
theorem affine_laneMatrix_getLsbD (c : Config) (b : Lane) (v imm : Byte) (k : Fin 16) (i q : Nat) (hi : i < 8)
    (hq : q = k.val / c.matrixSpan.bytes) (hb : 8 * q + 7 - i < 16) :
    (affine (laneMatrix c b k) v imm).getLsbD i = (parity (b[8 * q + 7 - i] &&& v) ^^ imm.getLsbD i) := by
  subst hq
  rw [affine_getLsbD _ _ _ _ hi, laneMatrix_extract_byte c b k _ (by omega)]
  congr 4
  exact (Nat.add_sub_assoc (Nat.le_of_lt_succ hi) _).symm

/-- Settles O24: the bytes of the matrix, and the closed form of `affine` on the value byte or its inverse. -/
theorem laneRowOrder : Obligations.LaneRowOrder := by
  refine ⟨fun c b k j q hq => ?_, fun c a b imm k i q hi hq hb => ⟨?_, ?_⟩⟩
  · rw [hq, laneMatrix_extract_byte c b k _ j.isLt]
    exact (getElem?_pos b _ _).symm
  · rw [Fin.getElem_fin, laneAffine_getElem]
    exact affine_laneMatrix_getLsbD c b _ imm k i q hi hq hb
  · rw [Fin.getElem_fin, laneAffineInv_getElem, affineInverse_eq]
    exact affine_laneMatrix_getLsbD c b _ imm k i q hi hq hb

/-! ### The bytes of a result lane are independent (R158) -/

theorem laneMatrix_congr (c : Config) (b b' : Lane) (k : Fin 16)
    (h : ∀ j : Fin 8, b[8 * (k.val / c.matrixSpan.bytes) + j.val]? = b'[8 * (k.val / c.matrixSpan.bytes) + j.val]?) :
    laneMatrix c b k = laneMatrix c b' k := by
  rw [laneMatrix_eq_packMatrix, laneMatrix_eq_packMatrix]
  refine packMatrix_congr b b' _ fun j hlo hhi => ?_
  have hbyte := h ⟨j.val - (matrixBase c k).val, Nat.sub_lt_left_of_lt_add hlo hhi⟩
  rw [← matrixBase_val, Nat.add_sub_cancel' hlo] at hbyte
  simpa using hbyte

/-- Settles O25: an affine result byte reads its value byte and its matrix, a product its two factors. -/
theorem laneBytesAreIndependent : Obligations.LaneBytesAreIndependent := by
  intro c op imm a a' b b' k ha hmatrix hfactor
  simp only [Fin.getElem_fin] at ha hfactor ⊢
  cases op with
  | affine => simp only [laneOp, laneAffine_getElem, laneMatrix_congr c b b' k (hmatrix (by decide)), ha]
  | affineInv => simp only [laneOp, laneAffineInv_getElem, laneMatrix_congr c b b' k (hmatrix (by decide)), ha]
  | mul => simp only [laneOp, laneMul_getElem, ha, hfactor rfl]

end Sys2Proof.Machine

/-! ## Write-back: widths, masks and what a command keeps (`43_adapter_writeback.md`) -/

namespace Sys2Proof.Machine

/-! ### What a command changes (R176, R177) -/

/-- A running unit commits the command's new value and does nothing else. -/
theorem exec_running (i : Instr) (s t : State) (hs : s.halted = false) (h : exec i s = .next t) :
    t = s.commit i.shape.dst (newValue i.shape s) := by
  rw [exec_eq, hs, if_neg Bool.false_ne_true] at h
  exact (Host.Outcome.next.inj h).symm

/-- A command leaves the state as it is (a halted unit) or makes one register write (a running one). -/
theorem exec_cases (i : Instr) (s t : State) (h : exec i s = .next t) :
    t = s ∨ t = s.commit i.shape.dst (newValue i.shape s) := by
  cases hs : s.halted with
  | true =>
    rw [exec_eq, hs, if_pos rfl] at h
    exact .inl (Host.Outcome.next.inj h).symm
  | false => exact .inr (exec_running i s t hs h)

/-- Settles O43: the one register write of a command touches its destination and `cix` only. -/
theorem frameOfEveryForm : Obligations.FrameOfEveryForm := by
  unfold Obligations.FrameOfEveryForm
  intro i s t h
  obtain rfl | rfl := exec_cases i s t h
  · exact ⟨rfl, rfl, rfl, rfl, fun _ _ => rfl⟩
  · exact ⟨rfl, rfl, rfl, rfl, fun r hr => setV_vreg_ne s _ _ r hr⟩

theorem presentCommand_valid (cw : CommandWord) (i : Instr) (s : State) (hd : decode cw = .valid i) :
    presentCommand cw s = exec i s := by
  rw [presentCommand, hd]

/-- Settles O45: the step presents the word to the state without the move, and a valid word runs its form. -/
theorem stepRunsTheDecodedInstruction : Obligations.StepRunsTheDecodedInstruction := by
  unfold Obligations.StepRunsTheDecodedInstruction
  intro s cw i rest hin hd
  rw [step_cons s _ rest hin]
  exact presentCommand_valid cw i _ hd

/-! ### The written register, by discipline (R168 to R174) -/

/-- A masked form is active over all 64 bytes, so only an unmasked one has bytes above its width. -/
theorem execResult_above_width (c : Config) (op : Op) (wb : WriteBack) (imm : Byte) (a b old : VReg) (m : KReg)
    (j : Fin 64) (hj : wb.width.bytes ≤ j.val) : (execResult c op wb imm a b old m)[j] = 0 := by
  cases wb with
  | full w =>
    rw [execResult, Fin.getElem_fin, zext512_getElem]
    exact dif_neg (Nat.not_lt.mpr hj)
  | merge | zero => exact absurd hj (Nat.not_le.mpr j.isLt)

/-- Settles O37: the destination holds the new value, and that is zero above the width. -/
theorem bytesAboveTheWidthAreZero : Obligations.BytesAboveTheWidthAreZero := by
  unfold Obligations.BytesAboveTheWidthAreZero
  intro i s t j hs h hj
  rw [exec_vreg_dst i s t hs h]
  exact execResult_above_width _ _ _ _ _ _ _ _ j hj

theorem execResult_merge_clear (c : Config) (op : Op) (imm : Byte) (a b old : VReg) (m : KReg) (j : Fin 64)
    (hm : m.getLsbD j.val = false) : (execResult c op .merge imm a b old m)[j] = old[j] := by
  rw [execResult, Fin.getElem_fin, mergeMasked_getElem, hm, if_neg Bool.false_ne_true, Fin.getElem_fin]

/-- Zero masking is merge masking into a register of zeros, whatever the destination held. -/
theorem execResult_zero_eq_merge (c : Config) (op : Op) (imm : Byte) (a b old : VReg) (m : KReg) :
    execResult c op .zero imm a b old m = execResult c op .merge imm a b (Vector.replicate 64 0) m := by
  ext j hj : 1
  rw [execResult, execResult, zeroMasked_getElem, mergeMasked_getElem, Vector.getElem_replicate]

/-- Settles O38: the destination holds the new value, whose byte under a clear mask bit is the policy's. -/
theorem maskedOffBytes : Obligations.MaskedOffBytes := by
  unfold Obligations.MaskedOffBytes
  intro i s t j hs h hm
  rw [exec_vreg_dst i s t hs h, newValue]
  refine ⟨fun hw => ?_, fun hw => ?_⟩
  · rw [hw, execResult_merge_clear _ _ _ _ _ _ _ j hm]
  · rw [hw, execResult_zero_eq_merge, execResult_merge_clear _ _ _ _ _ _ _ j hm]
    exact Vector.getElem_replicate j.isLt

/-! ### All-ones and all-zeros masks (R170, R171) -/

/-- An unmasked 512-bit result is as wide as the register, so an all-ones mask merges the same bytes. -/
theorem execResult_merge_allOnes (c : Config) (op : Op) (imm : Byte) (a b old old' : VReg) (m : KReg) :
    execResult c op .merge imm a b old (BitVec.allOnes 64) = execResult c op (.full .w512) imm a b old' m := by
  ext j hj : 1
  rw [execResult, execResult, mergeMasked_getElem, BitVec.getLsbD_allOnes, decide_eq_true hj, if_pos rfl,
    zext512_getElem]
  exact (dif_pos hj).symm

theorem execResult_masked_allOnes (c : Config) (op : Op) (wb : WriteBack) (imm : Byte) (a b old old' : VReg)
    (m : KReg) (hwb : wb = .merge ∨ wb = .zero) :
    execResult c op wb imm a b old (BitVec.allOnes 64) = execResult c op (.full .w512) imm a b old' m := by
  obtain rfl | rfl := hwb
  · exact execResult_merge_allOnes _ _ _ _ _ _ _ _
  · rw [execResult_zero_eq_merge, execResult_merge_allOnes]

theorem execResult_merge_zero (c : Config) (op : Op) (imm : Byte) (a b old : VReg) :
    execResult c op .merge imm a b old 0 = old :=
  Vector.ext fun j hj => execResult_merge_clear c op imm a b old 0 ⟨j, hj⟩ BitVec.getLsbD_zero

/-- Settles O39: the two forms commit one value under an all-ones mask; under an all-zeros mask the policy decides. -/
theorem maskExtremes : Obligations.MaskExtremes := by
  unfold Obligations.MaskExtremes
  intro i f s t u hs hwb hfull hop hdst hA hB himm ht hu
  refine ⟨fun hones => ?_, fun hzeros => ⟨fun hw => ?_, fun hw => ?_⟩⟩
  · have hvalue : newValue i.shape s = newValue f.shape s := by
      rw [newValue, newValue, hfull, hop, hA, hB, himm, hones]
      exact execResult_masked_allOnes _ _ _ _ _ _ _ _ _ hwb
    rw [exec_running i s t hs ht, exec_running f s u hs hu, hdst, hvalue]
  · rw [exec_vreg_dst i s t hs ht, newValue, hw, hzeros, execResult_merge_zero]
  · rw [exec_vreg_dst i s t hs ht, newValue, hw, hzeros, execResult_zero_eq_merge, execResult_merge_zero]

/-! ### A wide operation is one operation per lane (R167) -/

/-- The read interface keeps every lane it does not cut off. -/
theorem laneOf_readLow (nl : Nat) (h : nl ≤ 4) (x : VReg) (l : Fin nl) :
    laneOf (readLow nl h x) l = laneOf (nl := 4) x (l.castLE h) := by
  ext k hk : 1
  rw [laneOf_getElem, readLow_getElem, laneOf_getElem]
  rfl

/-- Byte k of lane l of a computed result is byte k of the lane operation on lane l of the operands. -/
theorem computed_lane (c : Config) (op : Op) (imm : Byte) {nl : Nat} (a b : Vector Byte (16 * nl)) (l : Fin nl)
    (k : Nat) (hk : k < 16) :
    (computed c op imm a b)[16 * l.val + k]'(by omega) = (laneOp c op imm (laneOf a l) (laneOf b l))[k] := by
  have hdiv : (16 * l.val + k) / 16 = l.val := by omega
  have hmod : (16 * l.val + k) % 16 = k := by omega
  simp only [computed_getElem, hdiv, hmod]

/-- Lane l of an unmasked result depends on lane l of the operands and on no other byte. -/
theorem execResult_full_lane (c : Config) (op : Op) (w : Width) (imm : Byte) (a b old : VReg) (m : KReg) (l : Fin 4)
    (hl : l.val < w.lanes) :
    laneOf (nl := 4) (execResult c op (.full w) imm a b old m) l =
      laneOp c op imm (laneOf (nl := 4) a l) (laneOf (nl := 4) b l) := by
  ext k hk : 1
  have hbyte : 16 * l.val + k < 16 * w.lanes := by omega
  rw [laneOf_getElem, execResult, zext512_getElem, dif_pos hbyte,
    computed_lane c op imm _ _ ⟨l.val, hl⟩ k hk, laneOf_readLow, laneOf_readLow]
  rfl

/-- A lane against lane 0, byte by byte at their places in the registers. -/
theorem laneOf_eq_lane_zero_iff (x y : VReg) (l : Fin 4) :
    laneOf (nl := 4) x l = laneOf (nl := 4) y 0 ↔ ∀ k : Fin 16, x[16 * l.val + k.val]? = y[k.val]? := by
  have hbyte (k : Fin 16) :
      x[16 * l.val + k.val]? = y[k.val]? ↔ (laneOf (nl := 4) x l)[k] = (laneOf (nl := 4) y 0)[k] := by
    rw [getElem?_pos x (16 * l.val + k.val) (by omega), getElem?_pos y k.val (by omega)]
    simp
  simp only [hbyte]
  exact ⟨fun h k => by rw [h], fun h => Vector.ext fun k hk => h ⟨k, hk⟩⟩

/-- Settles O40: each result holds the lane operation's value in its lane, and the lanes read are equal. -/
theorem widthIndependence : Obligations.WidthIndependence := by
  unfold Obligations.WidthIndependence
  intro i n w l s s' t t' hi hn hop himm hl hs hs' hA hB ht ht'
  rw [← laneOf_eq_lane_zero_iff] at hA hB ⊢
  rw [exec_vreg_dst i s t hs ht, exec_vreg_dst n s' t' hs' ht', newValue, newValue, hi, hn, hop, himm,
    execResult_full_lane _ _ _ _ _ _ _ _ l hl, execResult_full_lane _ _ .w128 _ _ _ _ _ 0 Nat.zero_lt_one, hA, hB]

end Sys2Proof.Machine

/-! ## The instruction forms against the rules' formulas -/

namespace Sys2Proof.Machine

open Claims

/-! ### The destination, by form (R168, R170, R171) -/

/-- Byte j of the lane operation: byte j mod 16 of the operation on lane j div 16 of the operands. -/
def opByte (c : Config) (op : Op) (imm : Byte) (a b : VReg) (j : Fin 64) : Byte :=
  (laneOp c op imm (laneOf (nl := 4) a (laneIdx j)) (laneOf (nl := 4) b (laneIdx j)))[j.val % 16]'(by omega)

/-- A computed byte does not depend on how wide the command is. -/
theorem computed_readLow_getElem (c : Config) (op : Op) (imm : Byte) (nl : Nat) (h : nl ≤ 4) (a b : VReg) (j : Fin 64)
    (hj : j.val < 16 * nl) :
    (computed c op imm (readLow nl h a) (readLow nl h b))[j.val] = opByte c op imm a b j := by
  rw [computed_getElem, laneOf_readLow, laneOf_readLow]
  rfl

theorem execResult_full (c : Config) (op : Op) (w : Width) (imm : Byte) (a b old : VReg) (m : KReg) :
    execResult c op (.full w) imm a b old m = lowBytes w.bytes (opByte c op imm a b) := by
  ext j hj : 1
  rw [execResult, zext512_getElem, lowBytes, regOf, Vector.getElem_ofFn]
  split
  · exact computed_readLow_getElem c op imm _ w.lanes_le a b ⟨j, hj⟩ ‹_›
  · rfl

theorem execResult_merge (c : Config) (op : Op) (imm : Byte) (a b old : VReg) (m : KReg) :
    execResult c op .merge imm a b old m = underMask m (opByte c op imm a b) fun j => old[j] := by
  ext j hj : 1
  rw [execResult, mergeMasked_getElem, computed_readLow_getElem c op imm 4 _ a b ⟨j, hj⟩ hj, underMask, regOf,
    Vector.getElem_ofFn]
  rfl

theorem execResult_zero (c : Config) (op : Op) (imm : Byte) (a b old : VReg) (m : KReg) :
    execResult c op .zero imm a b old m = underMask m (opByte c op imm a b) fun _ => 0x00 := by
  rw [execResult_zero_eq_merge, execResult_merge]
  congr 1
  funext j
  exact Vector.getElem_replicate j.isLt

/-- Computed bytes up to 64 fill the register. -/
theorem lowBytes_w512 (f : Fin 64 → Byte) : lowBytes Width.w512.bytes f = regOf f :=
  congrArg regOf (funext fun j => if_pos j.isLt)

/-- A running unit writes the new value of a command, and that is all that happens. -/
theorem writes_newValue (i : Instr) (s : State) (hs : s.halted = false) :
    Writes i s i.shape.dst (newValue i.shape s) := by
  rw [Writes, exec_eq, hs]
  rfl

section Forms

variable {i : Instr} {s : State} (hs : s.halted = false)

include hs

theorem writes_full (w : Width) (hw : i.shape.wb = .full w) :
    Writes i s i.shape.dst
      (lowBytes w.bytes (opByte Config.unit i.shape.op i.shape.imm (s.vreg i.shape.srcA) (s.vreg i.shape.srcB))) := by
  have h := writes_newValue i s hs
  rwa [newValue, hw, execResult_full] at h

theorem writes_merge (hw : i.shape.wb = .merge) :
    Writes i s i.shape.dst
      (underMask (s.kreg i.shape.kid)
        (opByte Config.unit i.shape.op i.shape.imm (s.vreg i.shape.srcA) (s.vreg i.shape.srcB))
        fun j => (s.vreg i.shape.dst)[j]) := by
  have h := writes_newValue i s hs
  rwa [newValue, hw, execResult_merge] at h

theorem writes_zero (hw : i.shape.wb = .zero) :
    Writes i s i.shape.dst
      (underMask (s.kreg i.shape.kid)
        (opByte Config.unit i.shape.op i.shape.imm (s.vreg i.shape.srcA) (s.vreg i.shape.srcB)) fun _ => 0x00) := by
  have h := writes_newValue i s hs
  rwa [newValue, hw, execResult_zero] at h

end Forms

/-! ### The matrix of a lane as the rules write it (R151, R196) -/

theorem or_reverse_bytes {w : Nat} (a b c d e f g h : BitVec w) :
    a ||| b ||| c ||| d ||| e ||| f ||| g ||| h = h ||| g ||| f ||| e ||| d ||| c ||| b ||| a := by ac_rfl

/-- The concatenated matrix as an OR of shifted bytes, the lowest-indexed first. -/
theorem packMatrix_eq_or (b : Lane) (base : Fin 9) :
    packMatrix b base =
      b[base.val].setWidth 64 ||| (b[base.val + 1].setWidth 64 <<< 8) ||| (b[base.val + 2].setWidth 64 <<< 16) |||
        (b[base.val + 3].setWidth 64 <<< 24) ||| (b[base.val + 4].setWidth 64 <<< 32) |||
        (b[base.val + 5].setWidth 64 <<< 40) ||| (b[base.val + 6].setWidth 64 <<< 48) |||
        (b[base.val + 7].setWidth 64 <<< 56) := by
  have h : packMatrix b base = (packMatrix b base).setWidth 64 := (BitVec.setWidth_eq _).symm
  rw [h, packMatrix]
  simp only [BitVec.setWidth_append_eq_shiftLeft_setWidth_or, BitVec.shiftLeft_or_distrib, ← BitVec.shiftLeft_add]
  exact or_reverse_bytes ..

/-- The rule's matrix of shifted bytes is the concatenation of bytes 0..7 of the lane (R151, R196). -/
theorem laneMat_eq_packMatrix (b : VReg) (l : Fin 4) : laneMat b l = packMatrix (laneOf (nl := 4) b l) 0 := by
  rw [packMatrix_eq_or]
  simp [laneMat, List.finRange_succ]

/-- This hardware has one matrix per lane, so every value byte of a lane meets the rule's matrix (R11, R151). -/
theorem laneMatrix_unit_laneOf (b : VReg) (l : Fin 4) (k : Fin 16) :
    laneMatrix Config.unit (laneOf (nl := 4) b l) k = laneMat b l := by
  rw [laneMatrix_span16 _ _ _ rfl, laneMat_eq_packMatrix]

/-- Register byte j is byte j mod 16 of its lane. -/
theorem laneOf_laneIdx_getElem (x : VReg) (j : Fin 64) :
    (laneOf (nl := 4) x (laneIdx j))[j.val % 16]'(by omega) = x[j] := by
  simp only [laneOf_getElem, laneIdx, Nat.div_add_mod, Fin.getElem_fin]

/-! ### The `GFAFFINE` forms (`44_instr_gfaffine.md`) -/

/-- The bytes of the affine lane operation are the rule's formula (R196). -/
theorem opByte_affine (imm : Byte) (a b : VReg) : opByte Config.unit .affine imm a b = affineByte a b imm := by
  funext j
  rw [opByte, laneOp, laneAffine_getElem, laneMatrix_unit_laneOf, laneOf_laneIdx_getElem, affineByte]

/-- Settles O28: each form writes its low bytes, and at 512 bits these are the whole register. -/
theorem gfaffineUnmaskedForms : Obligations.GfaffineUnmaskedForms := by
  unfold Obligations.GfaffineUnmaskedForms
  refine ⟨⟨encodedBy_rowOf (.affine, .full .w128), encodedBy_rowOf (.affine, .full .w256),
    encodedBy_rowOf (.affine, .full .w512)⟩, fun d a b imm s hs => ?_⟩
  rw [← lowBytes_w512, ← opByte_affine]
  exact ⟨writes_full hs .w128 rfl, writes_full hs .w256 rfl, writes_full hs .w512 rfl⟩

/-- Settles O29: a clear mask bit selects the old byte in the merging form and zero in the zeroing one. -/
theorem gfaffineMaskedForms : Obligations.GfaffineMaskedForms := by
  unfold Obligations.GfaffineMaskedForms
  refine ⟨⟨encodedBy_rowOf (.affine, .merge), encodedBy_rowOf (.affine, .zero)⟩, fun d a b k imm s hs => ?_⟩
  rw [← opByte_affine]
  exact ⟨writes_merge hs rfl, writes_zero hs rfl⟩

end Sys2Proof.Machine

/-! ## The `GFAFFINEINV` forms (`45_instr_gfaffineinv.md`) -/

namespace Sys2Proof.Machine

open Claims

/-! ### The computed bytes, and the five forms (R201 to R205) -/

/-- The bytes of the inverting lane operation are the rule's formula (R206). -/
theorem opByte_affineInv (imm : Byte) (a b : VReg) :
    opByte Config.unit .affineInv imm a b = affineInvByte a b imm := by
  funext j
  rw [opByte, laneOp, laneAffineInv_getElem, affineInverse_eq, laneMatrix_unit_laneOf, laneOf_laneIdx_getElem,
    affineInvByte]

/-- Settles O30: each form writes its low bytes, and at 512 bits these are the whole register. -/
theorem gfaffineinvUnmaskedForms : Obligations.GfaffineinvUnmaskedForms := by
  unfold Obligations.GfaffineinvUnmaskedForms
  refine ⟨⟨encodedBy_rowOf (.affineInv, .full .w128), encodedBy_rowOf (.affineInv, .full .w256),
    encodedBy_rowOf (.affineInv, .full .w512)⟩, fun d a b imm s hs => ?_⟩
  rw [← lowBytes_w512, ← opByte_affineInv]
  exact ⟨writes_full hs .w128 rfl, writes_full hs .w256 rfl, writes_full hs .w512 rfl⟩

/-- Settles O31: a clear mask bit selects the old byte in the merging form and zero in the zeroing one. -/
theorem gfaffineinvMaskedForms : Obligations.GfaffineinvMaskedForms := by
  unfold Obligations.GfaffineinvMaskedForms
  refine ⟨⟨encodedBy_rowOf (.affineInv, .merge), encodedBy_rowOf (.affineInv, .zero)⟩, fun d a b k imm s hs => ?_⟩
  rw [← opByte_affineInv]
  exact ⟨writes_merge hs rfl, writes_zero hs rfl⟩

/-! ### Inversion first, then the affine form (R206) -/

/-- The register with every byte inverted: operand A as the affine kernel of a `GFAFFINEINV` form sees it. -/
def invReg (a : VReg) : VReg := regOf fun j => inv a[j]

@[simp] theorem invReg_getElem (a : VReg) (j : Fin 64) : (invReg a)[j] = inv a[j] := by
  rw [invReg, regOf, Fin.getElem_fin, Vector.getElem_ofFn]

theorem affineInvByte_eq_affineByte (a b : VReg) (imm : Byte) :
    affineInvByte a b imm = affineByte (invReg a) b imm := by
  funext j
  rw [affineInvByte, affineByte, invReg_getElem]

/-- With the identity matrix in every lane and immediate 0, what is computed is the inversion alone. -/
theorem affineInvByte_identity (a e : VReg) (he : ∀ l, identityRows e l) (j : Fin 64) :
    affineInvByte a e 0 j = (invReg a)[j] := by
  rw [affineInvByte, he, affine_identity, invReg_getElem]

/-- Under every discipline the inverting operation is the affine one on the inverted operand. -/
theorem execResult_affineInv (wb : WriteBack) (imm : Byte) (a b old : VReg) (m : KReg) :
    execResult Config.unit .affineInv wb imm a b old m = execResult Config.unit .affine wb imm (invReg a) b old m := by
  have hbytes : opByte Config.unit .affineInv imm a b = opByte Config.unit .affine imm (invReg a) b := by
    rw [opByte_affineInv, opByte_affine, affineInvByte_eq_affineByte]
  cases wb with
  | full w => rw [execResult_full, execResult_full, hbytes]
  | merge => rw [execResult_merge, execResult_merge, hbytes]
  | zero => rw [execResult_zero, execResult_zero, hbytes]

theorem execResult_inversion_getElem (w : Width) (a e old : VReg) (m : KReg) (he : ∀ l, identityRows e l) (j : Fin 64)
    (hj : j.val < w.bytes) :
    (execResult Config.unit .affineInv (.full w) 0 a e old m)[j] = (invReg a)[j] := by
  rw [execResult_full, opByte_affineInv, lowBytes, regOf, Fin.getElem_fin, Vector.getElem_ofFn, if_pos hj]
  exact affineInvByte_identity a e he j

section InversionThenAffine

variable {s : State} {wb : WriteBack} {k : KId} {d a b x e : VId} {imm : Byte} (hxb : x ≠ b)
  (he : ∀ l, identityRows (s.vreg e) l)

include hxb he

/-- The affine form reads of `x` only the bytes of its width, which the inversion has written; it reads `b`, the mask
and, when it merges, `d` as they were before. -/
theorem newValue_affine_of_inversion (hold : wb = .merge → x ≠ d) :
    newValue ⟨.affine, wb, k, d, x, b, imm⟩ (s.commit x (newValue ⟨.affineInv, .full wb.width, 0, x, a, e, 0⟩ s)) =
      newValue ⟨.affineInv, wb, k, d, a, b, imm⟩ s := by
  simp only [newValue, commit_vreg, commit_kreg, if_true, if_neg hxb.symm]
  rw [execResult_affineInv wb]
  exact execResult_congr _ _ _ _ (fun j hj => execResult_inversion_getElem _ _ _ _ _ he j hj) (fun _ _ => rfl)
    (fun _ => rfl) fun hw => if_neg (hold hw).symm

theorem exec_affine_of_inversion {f g v : Instr} (hs : s.halted = false)
    (hf : f.shape = ⟨.affine, wb, k, d, x, b, imm⟩) (hg : g.shape = ⟨.affineInv, wb, k, d, a, b, imm⟩)
    (hv : v.shape = ⟨.affineInv, .full wb.width, 0, x, a, e, 0⟩) (hold : wb = .merge → x ≠ d) :
    ∃ t u w, exec v s = .next t ∧ exec f t = .next u ∧ exec g s = .next w ∧ u.vreg d = w.vreg d := by
  refine ⟨_, _, _, writes_newValue v s hs, writes_newValue f _ hs, writes_newValue g s hs, ?_⟩
  rw [hf, hg, hv]
  have hvalue := newValue_affine_of_inversion (k := k) (a := a) (imm := imm) hxb he hold
  exact (setV_vreg_self _ d _).trans (hvalue.trans (setV_vreg_self _ d _).symm)

end InversionThenAffine

/-- Settles O36: one argument for every width and masking; only merging reads the old `d`, so only
there must `x` differ from it. -/
theorem inverseFormIsInversionThenAffine : Obligations.InverseFormIsInversionThenAffine := by
  unfold Obligations.InverseFormIsInversionThenAffine
  intro d a b x e imm s hs hxb he
  exact ⟨exec_affine_of_inversion hxb he hs rfl rfl rfl nofun, exec_affine_of_inversion hxb he hs rfl rfl rfl nofun,
    exec_affine_of_inversion hxb he hs rfl rfl rfl nofun,
    fun _ hxd => exec_affine_of_inversion hxb he hs rfl rfl rfl fun _ => hxd,
    fun _ => exec_affine_of_inversion hxb he hs rfl rfl rfl nofun⟩

end Sys2Proof.Machine

/-! ## The `GFMUL` forms (`46_instr_gfmul.md`) -/

namespace Sys2Proof.Machine

open Claims

/-! ### The computed bytes, and the five forms (R211 to R215) -/

/-- Under any parameters byte j of the multiplying lane operation is the table product of the operands' bytes j. -/
theorem opByte_mul (c : Config) (imm : Byte) (a b : VReg) (j : Fin 64) :
    opByte c .mul imm a b j = gfMultiply c a[j] b[j] := by
  rw [opByte, laneOp, laneMul_getElem, laneOf_laneIdx_getElem, laneOf_laneIdx_getElem]

theorem opByte_unit_mul (imm : Byte) (a b : VReg) : opByte Config.unit .mul imm a b = mulByte a b :=
  funext (opByte_mul Config.unit imm a b)

/-- Settles O32: each form writes its low bytes, and at 512 bits these are the whole register. -/
theorem gfmulUnmaskedForms : Obligations.GfmulUnmaskedForms := by
  unfold Obligations.GfmulUnmaskedForms
  refine ⟨⟨encodedBy_rowOf (.mul, .full .w128), encodedBy_rowOf (.mul, .full .w256),
    encodedBy_rowOf (.mul, .full .w512)⟩, fun d a b s hs => ?_⟩
  rw [← lowBytes_w512, ← opByte_unit_mul 0]
  exact ⟨writes_full hs .w128 rfl, writes_full hs .w256 rfl, writes_full hs .w512 rfl⟩

/-- Settles O33: a clear mask bit selects the old byte in the merging form and zero in the zeroing one. -/
theorem gfmulMaskedForms : Obligations.GfmulMaskedForms := by
  unfold Obligations.GfmulMaskedForms
  refine ⟨⟨encodedBy_rowOf (.mul, .merge), encodedBy_rowOf (.mul, .zero)⟩, fun d a b k s hs => ?_⟩
  rw [← opByte_unit_mul 0]
  exact ⟨writes_merge hs rfl, writes_zero hs rfl⟩

/-! ### The computed bytes are reference products, under any generator (R216) -/

theorem lowBytes_getElem (n : Nat) (f : Fin 64 → Byte) (j : Fin 64) (hj : j.val < n) : (lowBytes n f)[j] = f j := by
  rw [lowBytes, regOf, Fin.getElem_fin, Vector.getElem_ofFn, if_pos hj]

theorem underMask_getElem (m : KReg) (f e : Fin 64 → Byte) (j : Fin 64) (hj : m.getLsbD j.val = true) :
    (underMask m f e)[j] = f j := by
  rw [underMask, regOf, Fin.getElem_fin, Vector.getElem_ofFn, if_pos hj]

/-- Below the width, and under a set bit of the mask where there is one, a byte is the lane operation's. -/
theorem execResult_getElem_computed (c : Config) (op : Op) (wb : WriteBack) (imm : Byte) (a b old : VReg) (m : KReg)
    (j : Fin 64) (hj : j.val < wb.width.bytes) (hm : wb.maskBit = 1 → m.getLsbD j.val = true) :
    (execResult c op wb imm a b old m)[j] = opByte c op imm a b j := by
  cases wb with
  | full w =>
    rw [execResult_full]
    exact lowBytes_getElem w.bytes _ j hj
  | merge => rw [execResult_merge, underMask_getElem _ _ _ j (hm rfl)]
  | zero => rw [execResult_zero, underMask_getElem _ _ _ j (hm rfl)]

/-- What a running unit does not refuse, it writes to the destination, under any parameters. -/
theorem runCommand_vreg_dst (c : Config) (sh : Shape) (s t : State) (hs : s.halted = false)
    (h : runCommand c sh s = .next t) :
    t.vreg sh.dst =
      execResult c sh.op sh.wb sh.imm (s.vreg sh.srcA) (s.vreg sh.srcB) (s.vreg sh.dst) (s.kreg sh.kid) := by
  rw [runCommand, hs, if_neg Bool.false_ne_true] at h
  split at h
  · rw [← Host.Outcome.next.inj h]
    exact setV_vreg_self s _ _
  · nomatch h

/-- Settles O34: the destination holds the table products, and with any generator these are the reference products. -/
theorem gfmulBytesAreReferenceProducts : Obligations.GfmulBytesAreReferenceProducts := by
  unfold Obligations.GfmulBytesAreReferenceProducts
  refine ⟨exec_eq_runCommand, fun c i s t j hg hop hs ht hj hm => ?_⟩
  rw [runCommand_vreg_dst c i.shape s t hs ht, execResult_getElem_computed _ _ _ _ _ _ _ _ j hj hm, hop, opByte_mul,
    gfMultiply_eq_gfMulRef c hg]

end Sys2Proof.Machine

/-! ## Contract violations and the halt (`60_exceptions.md`) -/

namespace Sys2Proof

open Claims

/-! ### The first failing check (R229) -/

section
variable (cw : CommandWord)

/-- A cause is reported when its check fails and every check before it passes. -/
theorem decode_violation_checks (c : Violation) :
    decode cw = .violation c ↔
      (opOf cw = 3 ∧ c = .opcode) ∨
      (opOf cw ≠ 3 ∧ vlOf cw = 3 ∧ c = .width) ∨
      (opOf cw ≠ 3 ∧ vlOf cw ≠ 3 ∧ (mOf cw = 1 ∧ vlOf cw ≠ 2) ∧ c = .maskWidth) ∨
      (opOf cw ≠ 3 ∧ vlOf cw ≠ 3 ∧ ¬(mOf cw = 1 ∧ vlOf cw ≠ 2) ∧
        ((mOf cw = 0 ∧ (zOf cw = 1 ∨ kidOf cw ≠ 0)) ∨ (opOf cw = 2 ∧ immOf cw ≠ 0)) ∧ c = .reserved) := by
  rw [decode_violation_iff, check_ofWord]
  split_ifs <;> grind

theorem vlOf_eq_zero_or_one_iff : vlOf cw = 0 ∨ vlOf cw = 1 ↔ vlOf cw ≠ 3 ∧ vlOf cw ≠ 2 := by
  have hlt : vlOf cw < 4 := Nat.mod_lt _ (by decide)
  omega

theorem decode_opcode_iff : decode cw = .violation .opcode ↔ opOf cw = 3 := by
  simp [decode_violation_checks]

theorem decode_width_iff : decode cw = .violation .width ↔ opOf cw ≠ 3 ∧ vlOf cw = 3 := by
  simp [decode_violation_checks]

theorem decode_maskWidth_iff :
    decode cw = .violation .maskWidth ↔ opOf cw ≠ 3 ∧ mOf cw = 1 ∧ (vlOf cw = 0 ∨ vlOf cw = 1) := by
  simp only [decode_violation_checks, vlOf_eq_zero_or_one_iff, reduceCtorEq]
  tauto

theorem decode_reserved_iff :
    decode cw = .violation .reserved ↔
      opOf cw ≠ 3 ∧ vlOf cw ≠ 3 ∧ ¬(mOf cw = 1 ∧ (vlOf cw = 0 ∨ vlOf cw = 1)) ∧
        ((mOf cw = 0 ∧ (zOf cw = 1 ∨ kidOf cw ≠ 0)) ∨ (opOf cw = 2 ∧ immOf cw ≠ 0)) := by
  simp only [decode_violation_checks, vlOf_eq_zero_or_one_iff, reduceCtorEq]
  tauto

end

/-- Settles O7: one equivalence per cause; the codes and the example words are evaluated. -/
theorem firstFailingCheckIsReported : Obligations.FirstFailingCheckIsReported :=
  ⟨decode_opcode_iff, decode_width_iff, decode_maskWidth_iff, decode_reserved_iff, by decide, by decide, by decide,
    by decide, by decide, by decide⟩

end Sys2Proof

namespace Sys2Proof.Machine

/-! ### `HALTED` and `CAUSE` are read from `STATUS` (R44) -/

theorem halted_of_status_eq {s t : State} (h : t.status = s.status) : t.halted = s.halted := by
  rw [State.halted, State.halted, h]

theorem cause_of_status_eq {s t : State} (h : t.status = s.status) : t.cause = s.cause := by
  rw [State.cause, State.cause, h]

theorem halted_of_status_zero {s : State} (h : s.status = 0) : s.halted = false := by
  simp [State.halted, h]

/-! ### The kinds of transition (R240) -/

/-- A violating word presented to a running unit writes `STATUS` and nothing else (R225). -/
theorem step_violation_running (s : State) (cw : CommandWord) (c : Violation) (rest : List Move)
    (hs : s.halted = false) (hin : s.input = .command cw :: rest) (hd : decode cw = .violation c) :
    step s = .next { s with input := rest, status := haltedStatus c } := by
  rw [step_violation s cw c rest hin hd, haltUnit_running c { s with input := rest } hs]

/-- Settles O53: the kind of a command is decided by `HALTED` and by the word; every other move is a kind by itself. -/
theorem kindsOfTransition : Obligations.KindsOfTransition := by
  unfold Obligations.KindsOfTransition
  intro s t h
  obtain ⟨mv, rest, hin, hrun⟩ := step_next_cons s t h
  refine ⟨mv, rest, hin, ?_⟩
  cases mv with
  | command cw =>
    cases hs : s.halted with
    | true =>
      obtain rfl := Host.Outcome.next.inj (h.symm.trans (step_command_halted s cw rest hs hin))
      exact ⟨rfl, .inr (.inr (.inl ⟨cw, rfl, rfl, rfl⟩))⟩
    | false =>
      obtain ⟨i, hd⟩ | ⟨c, hd⟩ := decode_total cw
      · obtain rfl := Host.Outcome.next.inj (h.symm.trans (step_valid s cw i rest hs hin hd))
        exact ⟨rfl, .inl ⟨cw, i, rfl, hd, rfl, rfl, rfl, rfl, rfl, fun r hr => setV_vreg_ne _ _ _ r hr⟩⟩
      · obtain rfl := Host.Outcome.next.inj (h.symm.trans (step_violation_running s cw c rest hs hin hd))
        exact ⟨rfl, .inr (.inl ⟨cw, c, rfl, hd, rfl, haltedStatus_halted c s, haltedStatus_cause c s, rfl, rfl, rfl,
          rfl⟩)⟩
  | reset =>
    obtain rfl := Host.Outcome.next.inj (h.symm.trans (step_reset s rest hin))
    exact ⟨resetUnit_input _, .inr (.inr (.inr (.inl ⟨rfl, resetUnit_status _, resetUnit_cix _⟩)))⟩
  | writeV | writeK | readV | readK | observeStatus =>
    obtain rfl := Host.Outcome.next.inj hrun
    exact ⟨rfl, .inr (.inr (.inr (.inr ⟨rfl, nofun, rfl, rfl, rfl⟩)))⟩

/-! ### Nothing but a reset clears the halt (R225, R228, R254) -/

/-- Whatever is no reset keeps `STATUS`, or is a violating word that halts a running unit. -/
theorem step_status_of_ne_reset (s t : State) (h : step s = .next t) (hr : s.input.head? ≠ some .reset) :
    t.status = s.status ∨ (s.halted = false ∧ t.halted = true) := by
  obtain ⟨mv, rest, hin, -, hkind⟩ := kindsOfTransition s t h
  obtain ⟨_, _, -, -, -, -, hstatus, -⟩ | ⟨_, _, -, -, hs, ht, -⟩ | ⟨_, -, -, rfl⟩ | ⟨rfl, -⟩ | ⟨-, -, hstatus, -⟩ :=
    hkind
  · exact .inl hstatus
  · exact .inr ⟨hs, ht⟩
  · exact .inl rfl
  · exact absurd (congrArg List.head? hin) hr
  · exact .inl hstatus

/-- Settles O51: a step that is no reset keeps `STATUS`, or ends halted and so with a nonzero `STATUS`. -/
theorem onlyResetClearsTheHalt : Obligations.OnlyResetClearsTheHalt := by
  unfold Obligations.OnlyResetClearsTheHalt
  intro s t h
  constructor
  · intro hs ht
    by_contra hr
    obtain hsame | ⟨-, hhalted⟩ := step_status_of_ne_reset s t h hr
    · exact hs (hsame.symm.trans ht)
    · simp [halted_of_status_zero ht] at hhalted
  · intro hs hr
    obtain hsame | ⟨hrunning, -⟩ := step_status_of_ne_reset s t h hr
    · exact ⟨(halted_of_status_eq hsame).trans hs, hsame⟩
    · simp [hs] at hrunning

/-- Settles O46: the violating word writes `STATUS`, and of the moves after it only a reset does. -/
theorem violationHaltsTheUnit : Obligations.ViolationHaltsTheUnit := by
  unfold Obligations.ViolationHaltsTheUnit
  intro s cw c rest hs hin hd
  refine ⟨_, step_violation_running s cw c rest hs hin hd, haltedStatus_halted c s, haltedStatus_cause c s, rfl, rfl,
    rfl, rfl, rfl, fun mv l u hmv hu => ?_⟩
  obtain ⟨hhalted, hstatus⟩ := (onlyResetClearsTheHalt _ u hu).2 (haltedStatus_halted c s) (by simpa using hmv)
  exact ⟨hhalted, (cause_of_status_eq hstatus).trans (haltedStatus_cause c s)⟩

theorem exec_halted (i : Instr) (s : State) (hs : s.halted = true) : exec i s = .next s := by
  rw [exec_eq, if_pos hs]

/-- Settles O47: the halted unit's command step and its execution of a form are both the identity. -/
theorem haltedUnitTakesNoCommand : Obligations.HaltedUnitTakesNoCommand :=
  ⟨step_command_halted, exec_halted⟩

/-! ### An environment that keeps the contract (R224, R261) -/

/-- A move that keeps the contract keeps a running unit running; unless it is a reset, `cix` counts the commands. -/
theorem step_of_keepsContract (s : State) (mv : Move) (rest : List Move) (hs : s.halted = false)
    (hin : s.input = mv :: rest) (hk : mv.keepsContract = true) :
    ∃ t, step s = .next t ∧ t.halted = false ∧ t.input = rest ∧
      (mv ≠ .reset → t.cix = s.cix + if mv.isCommand then 1 else 0) := by
  obtain ⟨t, hrun⟩ := runMove_next mv { s with input := rest }
  have hstep : step s = .next t := (step_cons s mv rest hin).trans hrun
  obtain ⟨mv', rest', hin', hrest, hkind⟩ := kindsOfTransition s t hstep
  obtain ⟨rfl, rfl⟩ := List.cons.inj (hin.symm.trans hin')
  refine ⟨t, hstep, ?_⟩
  obtain ⟨_, _, rfl, -, -, -, hstatus, hcix, -⟩ | ⟨_, _, rfl, hd, -⟩ | ⟨_, -, hhalted, -⟩ | ⟨rfl, hstatus, -⟩ |
    ⟨hcmd, -, hstatus, hcix, -⟩ := hkind
  · exact ⟨(halted_of_status_eq hstatus).trans hs, hrest, fun _ => hcix⟩
  · simp [Move.keepsContract, hd] at hk
  · simp [hs] at hhalted
  · exact ⟨halted_of_status_zero hstatus, hrest, fun hr => absurd rfl hr⟩
  · exact ⟨(halted_of_status_eq hstatus).trans hs, hrest, fun _ => by simp [hcmd, hcix]⟩

theorem run_succ_of_step {s t : State} (k : Nat) (h : step s = .next t) :
    Sys2Proof.core.run (k + 1) s = Sys2Proof.core.run k t := by
  have hcore : Sys2Proof.core.step s = .next t := h
  simp only [Host.Core.run, hcore]

/-- A run over moves that all keep the contract. -/
theorem run_of_keepsContract (l : List Move) (s : State) (hs : s.halted = false) (hin : s.input = l)
    (hk : ∀ mv ∈ l, mv.keepsContract = true) :
    ∃ t, Sys2Proof.core.run l.length s = .next t ∧ t.halted = false ∧ t.input = [] ∧
      (Move.reset ∉ l → t.cix = s.cix + l.countP Move.isCommand) := by
  induction l generalizing s with
  | nil => exact ⟨s, rfl, hs, hin, fun _ => rfl⟩
  | cons mv rest ih =>
    obtain ⟨hmv, hrest⟩ := List.forall_mem_cons.mp hk
    obtain ⟨u, hstep, hu, hinu, hcixu⟩ := step_of_keepsContract s mv rest hs hin hmv
    obtain ⟨t, hrun, ht, hint, hcixt⟩ := ih u hu hinu hrest
    refine ⟨t, (run_succ_of_step rest.length hstep).trans hrun, ht, hint, fun hr => ?_⟩
    obtain ⟨hne, hnot⟩ := not_or.mp (mt List.mem_cons.mpr hr)
    rw [hcixt hnot, hcixu (Ne.symm hne), List.countP_cons]
    omega

/-- Settles O56, by induction over the waiting moves: each keeps the unit running. -/
theorem contractKeptMeansNoHalt : Obligations.ContractKeptMeansNoHalt := by
  unfold Obligations.ContractKeptMeansNoHalt
  intro s hs hk
  rw [← List.countP_eq_length_filter]
  exact run_of_keepsContract s.input s hs rfl (List.all_eq_true.mp hk)

end Sys2Proof.Machine

/-! ## Reset and launch (`70_reset_and_hazards.md`) -/

namespace Sys2Proof.Machine

/-- Settles O49: the fields of the reset state, with the unspecified registers as witnesses. -/
theorem resetClearsStatusAndIndex : Obligations.ResetClearsStatusAndIndex :=
  fun s rest hin => ⟨_, _, _, step_reset s rest hin⟩

@[simp] theorem launch_cause (v : Vector VReg 32) (k : Vector KReg 8) : (State.launch v k).cause = 0 := by
  simp [State.cause]

/-- Settles O50: the fields of a launch state, one by one. -/
theorem launchState : Obligations.LaunchState :=
  ⟨fun v k => ⟨launch_halted v k, launch_cause v k, launch_cix v k, launch_v v k, launch_k v k⟩, _, _, rfl⟩

end Sys2Proof.Machine
